-- ==== Sys2Proof/Word.lean ====
section
/-! DEFINITION. The word types of the block's ports (00_scope R8, R10) and the two levels the core drives. -/

namespace Sys2Proof

/-- A code: the 32-bit NEC payload of one command (00_scope R8 `CODE_W`, R15). Also the width of `ARG` and `DATA`. -/
abbrev Code := BitVec 32

/-- A request word (00_scope R8 `REQ_W`, 30_encoding R70). -/
abbrev ReqWord := BitVec 36

/-- A response word (00_scope R8 `RESP_W`, 30_encoding R75). -/
abbrev RespWord := BitVec 34

/-- An event word (00_scope R8 `EVT_W`, 30_encoding R80). -/
abbrev EvtWord := BitVec 32

/-- The operand field `VAL` of an event word (30_encoding R80). -/
abbrev Val := BitVec 30

/-- The logic level of a pulse or of a SET event (00_scope R13, 30_encoding R82). -/
inductive Level
  | low
  | high
  deriving DecidableEq, Repr

end Sys2Proof
end

