-- ==== Sys2Proof/Config.lean ====
section
/-! DEFINITION. The implementation parameters of 00_scope R8: the fixed timing constants, the build parameters with
their defaults, and the OPEN values as constants without a body. -/

namespace Sys2Proof

/-- The build parameters of 00_scope R8 that a model may override: fixed for one block, written by no step
(43_repeat R162). State carries them, so that a statement about every state is one about every build (log 6). -/
structure Build where
  /-- `REPEAT_COUNT`, frames of a SEND_CMD session; at least 1 (00_scope R8). -/
  repeatCount : Nat
  /-- `PAUSE_MS` in milliseconds; below 2^30 (30_encoding R84), which its width says. -/
  pauseMs : Val
  /-- `TRAILING_PAUSE`: a pause follows the last frame too (90_conflicts C1). -/
  trailingPause : Bool
  /-- `LEARN_ADMITTED`: false lets the model refuse LEARN (44_dispatcher R190). -/
  learnAdmitted : Bool
  /-- `LEARN_PLACEHOLDER`, OPEN (92_eei_decisions D20). -/
  learnPlaceholder : Code
  deriving DecidableEq, Repr

namespace Config

/-- `NCMD`: the registry's length (00_scope R8). -/
def nCmd : Nat := 10

/-- `T_HDR_MARK` in microseconds (00_scope R8). -/
def tHdrMark : Nat := 9000

/-- `T_HDR_SPACE` in microseconds (00_scope R8). -/
def tHdrSpace : Nat := 4500

/-- `T_BIT_MARK` in microseconds (00_scope R8, R9). -/
def tBitMark : Nat := 560

/-- `T_ONE_SPACE` in microseconds (00_scope R8). -/
def tOneSpace : Nat := 1690

/-- `T_ZERO_SPACE` in microseconds (00_scope R8, R9). -/
def tZeroSpace : Nat := 560

/-- `T_TRL_MARK` in microseconds (00_scope R8, R9). -/
def tTrlMark : Nat := 560

/-- `NPULSE`: pulses per frame (00_scope R8). -/
def nPulse : Nat := 67

/-- `REGISTRY_CODE[i]` for `i` from 1 to 9: OPEN (00_scope R8, 20_memory R50). A free value: no body (log 5). -/
opaque registryCode : Nat → Code

/-- `LEARN_PLACEHOLDER`: OPEN (00_scope R8, 44_dispatcher R190). A free value: no body (log 6). -/
opaque learnPlaceholder : Code

/-- The outcome of the n-th pin configuration, `cap_cfg_ok`: a draw under no law (00_scope R12, 44_dispatcher R182,
93_implementation_defined U7). A free value: no body (log 3). -/
opaque cfgOutcome : Nat → Bool

/-- The registry's contents (20_memory R50): POWER_ON's code is the source's, the other nine are OPEN. -/
def registry : Vector Code nCmd :=
  #v[0x20DF10EF, registryCode 1, registryCode 2, registryCode 3, registryCode 4,
     registryCode 5, registryCode 6, registryCode 7, registryCode 8, registryCode 9]

/-- The build parameters at the defaults of 00_scope R8. -/
def build : Build :=
  { repeatCount := 3, pauseMs := 100, trailingPause := true, learnAdmitted := true,
    learnPlaceholder := learnPlaceholder }

end Config

end Sys2Proof
end

