-- ==== Sys2Proof/Syntax.lean ====
section
/-! DEFINITION. The instructions: one constructor per row of spec/opcode_table.json (30_encoding R91), requests first,
then events. -/

namespace Sys2Proof

/-- The 16 requests of 30_encoding R71 and the 4 events of 30_encoding R80. A request whose `ARG` is ignored still
carries it, so that no bit of a word is dropped (log 21). -/
inductive Instr
  /-- INIT (44_dispatcher R182). -/
  | init (arg : Code)
  /-- SEND_CMD (44_dispatcher R184); the operand is the unsigned index (30_encoding R72). -/
  | sendCmd (index : Code)
  /-- SEND_RAW (44_dispatcher R186); the operand is the code (30_encoding R72). -/
  | sendRaw (code : Code)
  /-- LEARN (44_dispatcher R190). -/
  | learn (arg : Code)
  /-- Reserved opcode 0x0 (44_dispatcher R188). -/
  | reservedOp0 (arg : Code)
  /-- Reserved opcode 0x5 (44_dispatcher R188). -/
  | reservedOp5 (arg : Code)
  /-- Reserved opcode 0x6 (44_dispatcher R188). -/
  | reservedOp6 (arg : Code)
  /-- Reserved opcode 0x7 (44_dispatcher R188). -/
  | reservedOp7 (arg : Code)
  /-- Reserved opcode 0x8 (44_dispatcher R188). -/
  | reservedOp8 (arg : Code)
  /-- Reserved opcode 0x9 (44_dispatcher R188). -/
  | reservedOp9 (arg : Code)
  /-- Reserved opcode 0xA (44_dispatcher R188). -/
  | reservedOpA (arg : Code)
  /-- Reserved opcode 0xB (44_dispatcher R188). -/
  | reservedOpB (arg : Code)
  /-- Reserved opcode 0xC (44_dispatcher R188). -/
  | reservedOpC (arg : Code)
  /-- Reserved opcode 0xD (44_dispatcher R188). -/
  | reservedOpD (arg : Code)
  /-- Reserved opcode 0xE (44_dispatcher R188). -/
  | reservedOpE (arg : Code)
  /-- Reserved opcode 0xF (44_dispatcher R188). -/
  | reservedOpF (arg : Code)
  /-- SET (42_transmitter R141, 30_encoding R82). -/
  | set (level : Level)
  /-- HOLD_US (42_transmitter R142, 30_encoding R83); microseconds. -/
  | holdUs (d : Val)
  /-- PAUSE_MS (43_repeat R163, 30_encoding R84); milliseconds. -/
  | pauseMs (d : Val)
  /-- CFG (44_dispatcher R182, 30_encoding R85); 1 is configured, 0 is failed. -/
  | cfg (ok : Bool)
  deriving DecidableEq, Repr

end Sys2Proof
end

