-- ==== Sys2Proof/WellFormed.lean ====
section
/-! DEFINITION. Which instructions the spec gives as legal: the operand domains of the two timed events
(30_encoding R83, R84, R86). Every other operand is legal at every value of its width. -/

namespace Sys2Proof

/-- The only holds the Block emits, in microseconds (30_encoding R83, 41_encoder R120). -/
def holdValues : List Nat :=
  [Config.tHdrMark, Config.tHdrSpace, Config.tBitMark, Config.tOneSpace, Config.tZeroSpace, Config.tTrlMark]

/-- The operand of HOLD_US is one of 9000, 4500, 560 and 1690 (42_transmitter R142, 30_encoding R86). -/
def holdWellFormed (d : Val) : Bool := holdValues.contains d.toNat

/-- The operand of PAUSE_MS is the build's `PAUSE_MS` (43_repeat R163, 30_encoding R86). -/
def pauseWellFormed (b : Build) (d : Val) : Bool := d == b.pauseMs

/-- An instruction the spec gives as legal in the build `b`. -/
def Instr.wellFormed (b : Build) : Instr → Bool
  | .init _ => true
  | .sendCmd _ => true
  | .sendRaw _ => true
  | .learn _ => true
  | .reservedOp0 _ => true
  | .reservedOp5 _ => true
  | .reservedOp6 _ => true
  | .reservedOp7 _ => true
  | .reservedOp8 _ => true
  | .reservedOp9 _ => true
  | .reservedOpA _ => true
  | .reservedOpB _ => true
  | .reservedOpC _ => true
  | .reservedOpD _ => true
  | .reservedOpE _ => true
  | .reservedOpF _ => true
  | .set _ => true
  | .holdUs d => holdWellFormed d
  | .pauseMs d => pauseWellFormed b d
  | .cfg _ => true

end Sys2Proof
end

