-- ==== Sys2Proof/Decode.lean ====
section
/-! DEFINITION. Decoding of request words and event words, the encoder, and the opcode table's rows
(30_encoding R70 to R74, R80 to R86, R91). -/

namespace Sys2Proof

/-- A word on one of the two ports: a request on `req_word`, an event on `cap_evt`. The port says which of the two
formats of 30_encoding R91 a word has (log 20). -/
inductive FetchWord
  | req (w : ReqWord)
  | evt (w : EvtWord)
  deriving DecidableEq, Repr

/-- Why a word is not an instruction: the event encodings 30_encoding R86 reserves. No request word is refused: each
opcode has a row (30_encoding R73). -/
inductive DecodeError
  /-- A SET word with `VAL[29:1] ≠ 0`. -/
  | reservedSet (val : Val)
  /-- A CFG word with `VAL[29:1] ≠ 0`. -/
  | reservedCfg (val : Val)
  deriving DecidableEq, Repr

/-- `OP = w[35:32]` (30_encoding R70). -/
def opField (w : ReqWord) : BitVec 4 := w.extractLsb' 32 4

/-- `ARG = w[31:0]` (30_encoding R70). -/
def argField (w : ReqWord) : Code := w.extractLsb' 0 32

/-- `KIND = w[31:30]` (30_encoding R80). -/
def kindField (w : EvtWord) : BitVec 2 := w.extractLsb' 30 2

/-- `VAL = w[29:0]` (30_encoding R80). -/
def valField (w : EvtWord) : Val := w.extractLsb' 0 30

/-- The request a word names: the whole opcode map of 30_encoding R71. -/
def decodeReq (w : ReqWord) : Instr :=
  match opField w with
  | 0x0#4 => .reservedOp0 (argField w)
  | 0x1#4 => .init (argField w)
  | 0x2#4 => .sendCmd (argField w)
  | 0x3#4 => .sendRaw (argField w)
  | 0x4#4 => .learn (argField w)
  | 0x5#4 => .reservedOp5 (argField w)
  | 0x6#4 => .reservedOp6 (argField w)
  | 0x7#4 => .reservedOp7 (argField w)
  | 0x8#4 => .reservedOp8 (argField w)
  | 0x9#4 => .reservedOp9 (argField w)
  | 0xA#4 => .reservedOpA (argField w)
  | 0xB#4 => .reservedOpB (argField w)
  | 0xC#4 => .reservedOpC (argField w)
  | 0xD#4 => .reservedOpD (argField w)
  | 0xE#4 => .reservedOpE (argField w)
  | _ => .reservedOpF (argField w)  -- the one value left, 0xF

/-- The level in `VAL[0]` of a SET word: 1 is HIGH, 0 is LOW; none where `VAL[29:1] ≠ 0` (30_encoding R82). -/
def levelOfVal (v : Val) : Option Level :=
  if v = 0#30 then some .low else if v = 1#30 then some .high else none

/-- The outcome in `VAL[0]` of a CFG word; none where `VAL[29:1] ≠ 0` (30_encoding R85). -/
def outcomeOfVal (v : Val) : Option Bool :=
  if v = 0#30 then some false else if v = 1#30 then some true else none

/-- The event a word names (30_encoding R80 to R85); the reserved SET and CFG words of R86 are refused by name. -/
def decodeEvt (w : EvtWord) : Except DecodeError Instr :=
  match kindField w with
  | 0#2 =>
    match levelOfVal (valField w) with
    | some l => .ok (.set l)
    | none => .error (.reservedSet (valField w))
  | 1#2 => .ok (.holdUs (valField w))
  | 2#2 => .ok (.pauseMs (valField w))
  | _ =>
    match outcomeOfVal (valField w) with
    | some ok => .ok (.cfg ok)
    | none => .error (.reservedCfg (valField w))

/-- The decoder, total on the words of both ports. -/
def decode : FetchWord → Except DecodeError Instr
  | .req w => .ok (decodeReq w)
  | .evt w => decodeEvt w

/-- The request word `OP` in 35:32 and `ARG` in 31:0 (30_encoding R70). -/
def reqWord (op : BitVec 4) (arg : Code) : ReqWord := op ++ arg

/-- The event word `KIND` in 31:30 and `VAL` in 29:0 (30_encoding R80). -/
def evtWord (kind : BitVec 2) (val : Val) : EvtWord := kind ++ val

/-- `VAL` of a SET word (30_encoding R82). -/
def valOfLevel : Level → Val
  | .low => 0#30
  | .high => 1#30

/-- `VAL` of a CFG word in the trace (30_encoding R85). -/
def valOfOutcome (ok : Bool) : Val := if ok then 1#30 else 0#30

/-- The word of an instruction (30_encoding R71, R82 to R85). -/
def encode : Instr → FetchWord
  | .init arg => .req (reqWord 0x1 arg)
  | .sendCmd index => .req (reqWord 0x2 index)
  | .sendRaw code => .req (reqWord 0x3 code)
  | .learn arg => .req (reqWord 0x4 arg)
  | .reservedOp0 arg => .req (reqWord 0x0 arg)
  | .reservedOp5 arg => .req (reqWord 0x5 arg)
  | .reservedOp6 arg => .req (reqWord 0x6 arg)
  | .reservedOp7 arg => .req (reqWord 0x7 arg)
  | .reservedOp8 arg => .req (reqWord 0x8 arg)
  | .reservedOp9 arg => .req (reqWord 0x9 arg)
  | .reservedOpA arg => .req (reqWord 0xA arg)
  | .reservedOpB arg => .req (reqWord 0xB arg)
  | .reservedOpC arg => .req (reqWord 0xC arg)
  | .reservedOpD arg => .req (reqWord 0xD arg)
  | .reservedOpE arg => .req (reqWord 0xE arg)
  | .reservedOpF arg => .req (reqWord 0xF arg)
  | .set level => .evt (evtWord 0 (valOfLevel level))
  | .holdUs d => .evt (evtWord 1 d)
  | .pauseMs d => .evt (evtWord 2 d)
  | .cfg ok => .evt (evtWord 3 (valOfOutcome ok))

/-- One row of spec/opcode_table.json: a word of `width` bits is of the row when its bits under `mask` are `pattern`. -/
structure TableRow where
  mnemonic : String
  width : Nat
  pattern : Nat
  mask : Nat
  deriving DecidableEq, Repr

/-- The rows of the 36-bit requests. -/
def requestRows : List TableRow :=
  [⟨"INIT", 36, 0x100000000, 0xF00000000⟩, ⟨"SEND_CMD", 36, 0x200000000, 0xF00000000⟩,
   ⟨"SEND_RAW", 36, 0x300000000, 0xF00000000⟩, ⟨"LEARN", 36, 0x400000000, 0xF00000000⟩,
   ⟨"RESERVED_OP0", 36, 0x000000000, 0xF00000000⟩, ⟨"RESERVED_OP5", 36, 0x500000000, 0xF00000000⟩,
   ⟨"RESERVED_OP6", 36, 0x600000000, 0xF00000000⟩, ⟨"RESERVED_OP7", 36, 0x700000000, 0xF00000000⟩,
   ⟨"RESERVED_OP8", 36, 0x800000000, 0xF00000000⟩, ⟨"RESERVED_OP9", 36, 0x900000000, 0xF00000000⟩,
   ⟨"RESERVED_OPA", 36, 0xA00000000, 0xF00000000⟩, ⟨"RESERVED_OPB", 36, 0xB00000000, 0xF00000000⟩,
   ⟨"RESERVED_OPC", 36, 0xC00000000, 0xF00000000⟩, ⟨"RESERVED_OPD", 36, 0xD00000000, 0xF00000000⟩,
   ⟨"RESERVED_OPE", 36, 0xE00000000, 0xF00000000⟩, ⟨"RESERVED_OPF", 36, 0xF00000000, 0xF00000000⟩]

/-- The rows of the 32-bit events. -/
def eventRows : List TableRow :=
  [⟨"SET", 32, 0x00000000, 0xFFFFFFFE⟩, ⟨"HOLD_US", 32, 0x40000000, 0xC0000000⟩,
   ⟨"PAUSE_MS", 32, 0x80000000, 0xC0000000⟩, ⟨"CFG", 32, 0xC0000000, 0xFFFFFFFE⟩]

/-- The instruction's mnemonic in spec/opcode_table.json. -/
def Instr.mnemonic : Instr → String
  | .init _ => "INIT"
  | .sendCmd _ => "SEND_CMD"
  | .sendRaw _ => "SEND_RAW"
  | .learn _ => "LEARN"
  | .reservedOp0 _ => "RESERVED_OP0"
  | .reservedOp5 _ => "RESERVED_OP5"
  | .reservedOp6 _ => "RESERVED_OP6"
  | .reservedOp7 _ => "RESERVED_OP7"
  | .reservedOp8 _ => "RESERVED_OP8"
  | .reservedOp9 _ => "RESERVED_OP9"
  | .reservedOpA _ => "RESERVED_OPA"
  | .reservedOpB _ => "RESERVED_OPB"
  | .reservedOpC _ => "RESERVED_OPC"
  | .reservedOpD _ => "RESERVED_OPD"
  | .reservedOpE _ => "RESERVED_OPE"
  | .reservedOpF _ => "RESERVED_OPF"
  | .set _ => "SET"
  | .holdUs _ => "HOLD_US"
  | .pauseMs _ => "PAUSE_MS"
  | .cfg _ => "CFG"

/-- The word `w` of `width` bits is of the row `r`. -/
def TableRow.covers (r : TableRow) : FetchWord → Bool
  | .req w => r.width == 36 && (w.toNat &&& r.mask) == r.pattern
  | .evt w => r.width == 32 && (w.toNat &&& r.mask) == r.pattern

/-- Two rows of one width have no word in common: some bit both rows fix differs. -/
def TableRow.apart (r t : TableRow) : Bool :=
  ((r.pattern ^^^ t.pattern) &&& (r.mask &&& t.mask)) != 0

/-- What the decoder reads from a word numbered as the opcode table numbers it: a word of at most 32 bits is an event
word, a longer one a request word; bits above the format's width make it no word (log 20). -/
def decodeTableWord (nbits w : Nat) : Option Instr :=
  if nbits ≤ 32 then
    if w < 2 ^ 32 then (decode (.evt (BitVec.ofNat 32 w))).toOption else none
  else
    if w < 2 ^ 36 then (decode (.req (BitVec.ofNat 36 w))).toOption else none

end Sys2Proof
end

