-- ==== Sys2Proof/Machine/State.lean ====
section
/-! DEFINITION. The machine's state as plain data (10_state R21 and the ports of 10_state R30, R31), the reasons a step
can stop, and the state right after reset (10_state R36). -/

namespace Sys2Proof.Machine

/-- The dispatcher's two states (10_state R23). -/
inductive DState
  | idle
  | transmitting
  deriving DecidableEq, Repr

/-- The level of the output line (10_state R27): UNDRIVEN is a third value, neither LOW nor HIGH. -/
inductive Line
  | undriven
  | low
  | high
  deriving DecidableEq, Repr

/-- One call on the Capability (00_scope R16, 30_encoding R80): an entry of a session and of the trace. -/
inductive Event
  | set (level : Level)
  | holdUs (d : Val)
  | pauseMs (d : Val)
  | cfg (ok : Bool)
  deriving DecidableEq, Repr

/-- The two error kinds of 60_exceptions R220. -/
inductive ErrorKind
  | invalidArgument
  | initFailure
  deriving DecidableEq, Repr

/-- The levels of the Host's two control pins during one step (10_state R30). -/
structure Pins where
  /-- `rst`: power-on reset (70_reset R250). -/
  rst : Bool
  /-- `resp_ready`: the Host takes the response (44_dispatcher R195). -/
  respReady : Bool
  deriving DecidableEq, Repr

/-- Why a step stops with a fault. Both are safe: they arise only in states that no run reaches. -/
inductive Fault
  /-- Raised by the Sequence step: TRANSMITTING with no event at `S.sess[S.upc]`, which 10_state R24 says never happens
  (log 8). Safe. -/
  | noSessionEvent
  /-- Raised by the Take step: the Host receives STATUS 3, which the Block never produces (30_encoding R76,
  93_implementation_defined U8; log 9). Safe. -/
  | reservedStatusTaken
  deriving DecidableEq, Repr

/-- Why an instruction is refused. -/
inductive Refusal
  /-- The instruction has no meaning yet. Safe. No arm answers this now. -/
  | notModelled (mnemonic : String)
  /-- Raised by LEARN in a build with `LEARN_ADMITTED = false`: the model-level refusal of 44_dispatcher R190. Safe. -/
  | learnNotAdmitted
  deriving DecidableEq, Repr

/-- The state: the Block's fields (10_state R21), the platform's (P.), the Host's side of its port, and the model's own
fields, in this order. -/
structure State where
  /-- `S.cfg` (10_state R22): the output line has been configured. -/
  cfg : Bool
  /-- `S.dstate` (10_state R23). -/
  dstate : DState
  /-- `S.upc` (10_state R24): the index in `sess` of the next event. -/
  upc : Nat
  /-- `S.sess` (10_state R25): the current session's events; nothing reads it in IDLE. -/
  sess : List Event
  /-- `S.resp` (10_state R26): the response buffer. -/
  resp : Option RespWord
  /-- `ROM` (10_state R29, 20_memory R50): no step writes it. -/
  rom : Vector Code Config.nCmd
  /-- `P.pin` (10_state R27). -/
  pin : Line
  /-- `P.trace` (10_state R28), oldest first. -/
  trace : List Event
  /-- The response words the Host has taken, oldest first: the second list of the observation (00_scope R7). -/
  responses : List RespWord
  /-- The request words the Host holds at its port (10_state R32): `req_valid = 1` while there is one, and the first is
  `req_word` (10_state R30; log 1). -/
  requests : List ReqWord
  /-- The Host's control pins during the next step (log 2). -/
  pins : Pins
  /-- The levels of those pins in the steps after the next; when none is left they hold (log 2). -/
  schedule : List Pins
  /-- The Capability's answers to the coming CFG events, where a scenario fixes them (log 3). -/
  capAnswers : List Bool
  /-- How many CFG outcomes have been drawn: the index of the next free value (log 3). -/
  draws : Nat
  /-- The build parameters (00_scope R8): no step writes them (log 6). -/
  build : Build
  deriving DecidableEq, Repr

/-- The state right after power-on reset at the model's start (10_state R36). The fields the spec gives no value for:
`sess` (log 4), `requests` (log 1), `pins` and `schedule` (log 2), `capAnswers` and `draws` (log 3). -/
def State.reset : State :=
  { cfg := false
    dstate := .idle
    upc := 0
    sess := []
    resp := none
    rom := Config.registry
    pin := .undriven
    trace := []
    responses := []
    requests := []
    pins := { rst := false, respReady := true }
    schedule := []
    capAnswers := []
    draws := 0
    build := Config.build }

end Sys2Proof.Machine
end

