-- ==== Sys2Proof/Machine/Operands.lean ====
section
/-! DEFINITION. The operand forms: a command index, a level on the line, an event as an instruction and as a word
(30_encoding R72, R80 to R85). -/

namespace Sys2Proof.Machine

/-- The index of SEND_CMD: `ARG` as an unsigned number, neither scaled nor sign-extended (30_encoding R72). -/
def indexOperand (arg : Code) : Nat := arg.toNat

/-- The code of SEND_RAW: `ARG` unchanged (30_encoding R72). -/
def codeOperand (arg : Code) : Code := arg

/-- The line's level for a driven level (10_state R27: SET(l) makes it `l`). -/
def lineOfLevel : Level → Line
  | .low => .low
  | .high => .high

/-- The line after an event: only CFG and SET change it (10_state R27). -/
def Event.drive (e : Event) (line : Line) : Line :=
  match e with
  | .set l => lineOfLevel l
  | .holdUs _ => line
  | .pauseMs _ => line
  | .cfg ok => if ok then .low else .undriven

/-- The instruction that performs an event: the four event rows of the opcode table (30_encoding R91). -/
def Event.toInstr : Event → Instr
  | .set l => .set l
  | .holdUs d => .holdUs d
  | .pauseMs d => .pauseMs d
  | .cfg ok => .cfg ok

/-- The event an instruction performs, for the four event rows; none for a request. -/
def instrEvent : Instr → Option Event
  | .init _ => none
  | .sendCmd _ => none
  | .sendRaw _ => none
  | .learn _ => none
  | .reservedOp0 _ => none
  | .reservedOp5 _ => none
  | .reservedOp6 _ => none
  | .reservedOp7 _ => none
  | .reservedOp8 _ => none
  | .reservedOp9 _ => none
  | .reservedOpA _ => none
  | .reservedOpB _ => none
  | .reservedOpC _ => none
  | .reservedOpD _ => none
  | .reservedOpE _ => none
  | .reservedOpF _ => none
  | .set l => some (.set l)
  | .holdUs d => some (.holdUs d)
  | .pauseMs d => some (.pauseMs d)
  | .cfg ok => some (.cfg ok)

/-- The word the trace records for an event (30_encoding R82 to R85). -/
def Event.word : Event → EvtWord
  | .set l => evtWord 0 (valOfLevel l)
  | .holdUs d => evtWord 1 d
  | .pauseMs d => evtWord 2 d
  | .cfg ok => evtWord 3 (valOfOutcome ok)

/-- The word the Block presents on `cap_evt` for an event: the recorded word, but `VAL[0] = 0` for CFG, whose outcome
is not known yet (30_encoding R85). -/
def Event.presentedWord : Event → EvtWord
  | .set l => (Event.set l).word
  | .holdUs d => (Event.holdUs d).word
  | .pauseMs d => (Event.pauseMs d).word
  | .cfg _ => (Event.cfg false).word

end Sys2Proof.Machine
end

