-- ==== Sys2Proof/Machine/Flags.lean ====
section
/-! DEFINITION. The status bits and the response word. The block has no condition codes (10_state R34): its two status
bits are `cfg` and BUSY, and a request sees them only through the status field of its response. -/

namespace Sys2Proof.Machine

/-- `STATUS` 0, SUCCESS (30_encoding R76). -/
def statusSuccess : BitVec 2 := 0

/-- `STATUS` 3, reserved: the Block never produces it (30_encoding R76). -/
def statusReserved : BitVec 2 := 3

/-- `STATUS` of an error (30_encoding R76, 60_exceptions R220). -/
def ErrorKind.status : ErrorKind → BitVec 2
  | .invalidArgument => 1
  | .initFailure => 2

/-- The response word: `STATUS` in 33:32 and `DATA` in 31:0 (30_encoding R75). -/
def respWord (status : BitVec 2) (data : Code) : RespWord := status ++ data

/-- `STATUS = r[33:32]` (30_encoding R75). -/
def statusField (r : RespWord) : BitVec 2 := r.extractLsb' 32 2

/-- `DATA = r[31:0]` (30_encoding R75). -/
def dataField (r : RespWord) : Code := r.extractLsb' 0 32

/-- BUSY: the dispatcher is transmitting (10_state R34). -/
def State.busy (s : State) : Bool := s.dstate == .transmitting

/-- `resp_valid`: the response buffer is full (10_state R30). -/
def State.respValid (s : State) : Bool := s.resp.isSome

/-- `req_ready`: IDLE with an empty response buffer (10_state R32). No event is ever outstanding between steps
(10_state R33). -/
def State.reqReady (s : State) : Bool := s.dstate == .idle && s.resp.isNone

/-- `req_valid`: the Host presents a request (10_state R30). -/
def State.reqValid (s : State) : Bool := !s.requests.isEmpty

end Sys2Proof.Machine
end

