-- ==== Sys2Proof/Machine/Ops.lean ====
section
/-! DEFINITION. The shared operations on the state: respond, raise, emit and draw (00_scope R12), the registry read
(20_memory R51, 40_registry R101), the start, advance and end of a session (44_dispatcher R184, R192, R194), the
response handshake (44_dispatcher R195), reset (70_reset R250, R251), and the passing of one step on the pins. -/

namespace Sys2Proof.Machine

/-- A next state is changed by `f`; a fault or a refusal stays. -/
def thenNext (o : Host.Outcome State Fault Refusal) (f : State → State) : Host.Outcome State Fault Refusal :=
  match o with
  | .next s => .next (f s)
  | .fault r => .fault r
  | .refused r => .refused r

/-- `respond(st, data)` (00_scope R12): the response buffer holds the word. -/
def State.respond (s : State) (status : BitVec 2) (data : Code) : State :=
  { s with resp := some (respWord status data) }

/-- `raise E(data)` (00_scope R12, 60_exceptions R227): the response is the error's, and nothing else is written. The
block has no trap, so this is all that taking an error does; nothing returns from it (60_exceptions R228). -/
def State.raiseError (s : State) (e : ErrorKind) (data : Code) : State :=
  s.respond e.status data

/-- `emit(e)` (00_scope R12): the trace records the event and the line takes its effect. -/
def State.emit (s : State) (e : Event) : State :=
  { s with trace := s.trace ++ [e], pin := e.drive s.pin }

/-- The value the next `draw ok` takes (44_dispatcher R182): the scenario's answer where it gives one, else the free
value of this draw (log 3). -/
def State.drawnOutcome (s : State) : Bool :=
  match s.capAnswers with
  | ok :: _ => ok
  | [] => Config.cfgOutcome s.draws

/-- The draw has been taken: the next one is another value (log 3). -/
def State.countDraw (s : State) : State :=
  { s with capAnswers := s.capAnswers.tail, draws := s.draws + 1 }

/-- `RomRead(i)` (20_memory R51): never performed for an index that is not below `NCMD`. -/
def State.romRead (s : State) (i : Nat) (h : i < Config.nCmd) : Code := s.rom[i]

/-- `lookup(index)` (40_registry R101): the bounds check comes first. -/
def State.lookup (s : State) (index : Nat) : Except ErrorKind Code :=
  if h : index < Config.nCmd then .ok (s.romRead index h) else .error .invalidArgument

/-- A send is accepted: the session is written, `upc` is 0 and the block is TRANSMITTING (44_dispatcher R184, R186). -/
def State.startSession (s : State) (session : List Event) : State :=
  { s with sess := session, upc := 0, dstate := .transmitting }

/-- The event at `upc` is the session's last (44_dispatcher R192). -/
def State.atLastEvent (s : State) : Bool := s.upc + 1 == s.sess.length

/-- After the event at `upc` (44_dispatcher R192, R194): the next index, or the end of the session with its
response. -/
def State.advance (s : State) : State :=
  { s with
    upc := if s.atLastEvent then 0 else s.upc + 1
    dstate := if s.atLastEvent then .idle else s.dstate
    resp := if s.atLastEvent then some (respWord statusSuccess 0) else s.resp }

/-- `S.sess[S.upc]`, read only in TRANSMITTING (10_state R25). -/
def State.sessionEvent (s : State) : Option Event :=
  match s.dstate with
  | .transmitting => s.sess[s.upc]?
  | .idle => none

/-- Take (44_dispatcher R195): the Host has the word and the buffer is empty. -/
def State.takeResponse (s : State) (r : RespWord) : State :=
  { s with resp := none, responses := s.responses ++ [r] }

/-- The handshake of an accepted request: the Host no longer presents it (10_state R30). -/
def State.dropRequest (s : State) : State :=
  { s with requests := s.requests.tail }

/-- Reset (70_reset R250, R251): the Block's fields take their reset values and the line is released. The trace, the
registry, the Host's side of the port and the model's own fields stay (10_state R36; log 4, log 22). -/
def State.resetBlock (s : State) : State :=
  { s with cfg := false, dstate := .idle, upc := 0, sess := [], resp := none, pin := .undriven }

/-- One step has passed at the Host's pins: the next scheduled levels, or the same ones when none is scheduled
(log 2). -/
def State.tick (s : State) : State :=
  { s with pins := s.schedule.headD s.pins, schedule := s.schedule.tail }

end Sys2Proof.Machine
end

