-- ==== Sys2Proof/Machine/Encoder.lean ====
section
/-! DEFINITION. The NEC frame encoder (41_encoder): a pure function from a code to 67 pulses. -/

namespace Sys2Proof.Machine

/-- A pulse: a level and its duration in microseconds (30_encoding R87). -/
structure Pulse where
  level : Level
  duration : Nat
  deriving DecidableEq, Repr

/-- The space of a bit: its length gives the bit's value (41_encoder R122). -/
def bitSpace (bit : Bool) : Pulse :=
  ⟨.low, if bit then Config.tOneSpace else Config.tZeroSpace⟩

/-- The pulses of bits `n − 1` down to 0 of a code, most significant first (41_encoder R120, R122). -/
def dataPulses (code : Code) : Nat → List Pulse
  | 0 => []
  | i + 1 => ⟨.high, Config.tBitMark⟩ :: bitSpace (code.getLsbD i) :: dataPulses code i

/-- The header (41_encoder R121). -/
def headerPulses : List Pulse := [⟨.high, Config.tHdrMark⟩, ⟨.low, Config.tHdrSpace⟩]

/-- The trailer mark (41_encoder R123). -/
def trailerPulse : Pulse := ⟨.high, Config.tTrlMark⟩

/-- `encode(code)` (41_encoder R120). -/
def necEncode (code : Code) : List Pulse :=
  headerPulses ++ dataPulses code 32 ++ [trailerPulse]

/-- The frame's duration in microseconds: the sum of its pulses' (41_encoder R128). -/
def frameTime (code : Code) : Nat := ((necEncode code).map (·.duration)).sum

/-- `popcount(code)` over the low `n` bits (41_encoder R128). -/
def onesBelow (code : Code) : Nat → Nat
  | 0 => 0
  | i + 1 => (code.getLsbD i).toNat + onesBelow code i

/-- `ones = popcount(code)` (41_encoder R128). -/
def popcount (code : Code) : Nat := onesBelow code 32

end Sys2Proof.Machine
end

