-- ==== Sys2Proof/Machine/Transmitter.lean ====
section
/-! DEFINITION. The pulse sequencer (42_transmitter): the events of one frame, and the meanings of SET and HOLD_US. -/

namespace Sys2Proof.Machine

/-- The two events of a pulse: set the line, then hold it (42_transmitter R140). -/
def pulseEvents (p : Pulse) : List Event :=
  [.set p.level, .holdUs (BitVec.ofNat 30 p.duration)]

/-- `frameEvents(code)` (42_transmitter R140): every pulse, then the line LOW with no hold (42_transmitter R143). -/
def frameEvents (code : Code) : List Event :=
  (necEncode code).flatMap pulseEvents ++ [.set .low]

/-- SET (42_transmitter R141). -/
def execSet (level : Level) (s : State) : Host.Outcome State Fault Refusal :=
  .next (s.emit (.set level))

/-- HOLD_US (42_transmitter R142). -/
def execHoldUs (d : Val) (s : State) : Host.Outcome State Fault Refusal :=
  .next (s.emit (.holdUs d))

end Sys2Proof.Machine
end

