-- ==== Sys2Proof/Machine/Repeat.lean ====
section
/-! DEFINITION. The repeat scheduler (43_repeat): the events of one session, and the meaning of PAUSE_MS. -/

namespace Sys2Proof.Machine

/-- `gap(r, n, paused)` (43_repeat R160): the pause after frame `r` of `n`. -/
def gap (b : Build) (r n : Nat) (paused : Bool) : List Event :=
  if paused && (decide (r + 1 < n) || b.trailingPause) then [.pauseMs b.pauseMs] else []

/-- `session(code, n, paused)` (43_repeat R160). -/
def session (b : Build) (code : Code) (n : Nat) (paused : Bool) : List Event :=
  (List.range n).flatMap fun r => frameEvents code ++ gap b r n paused

/-- The session of an accepted SEND_CMD (43_repeat R161). -/
def commandSession (b : Build) (code : Code) : List Event := session b code b.repeatCount true

/-- The session of an accepted SEND_RAW (43_repeat R161): one frame with no pause. -/
def rawSession (b : Build) (code : Code) : List Event := session b code 1 false

/-- The event at offset `e` within a frame and its gap, in the structured form of `upc` (43_repeat R166). -/
def slotEvent (b : Build) (code : Code) (e : Nat) : Option Event :=
  if e < 134 then
    ((necEncode code)[e / 2]?).map fun p =>
      if e % 2 = 0 then .set p.level else .holdUs (BitVec.ofNat 30 p.duration)
  else if e = 134 then some (.set .low)
  else if e = 135 then some (.pauseMs b.pauseMs)
  else none

/-- What an event's hold adds to the nominal time, in microseconds (43_repeat R167). -/
def Event.holdTime : Event → Nat
  | .set _ => 0
  | .holdUs d => d.toNat
  | .pauseMs _ => 0
  | .cfg _ => 0

/-- What an event's pause adds to the nominal time, in milliseconds (43_repeat R167). -/
def Event.pauseTime : Event → Nat
  | .set _ => 0
  | .holdUs _ => 0
  | .pauseMs d => d.toNat
  | .cfg _ => 0

/-- The line after a list of events, from `line` (10_state R27). -/
def lineAfter (line : Line) (events : List Event) : Line :=
  events.foldl (fun l e => e.drive l) line

/-- PAUSE_MS (43_repeat R163). -/
def execPauseMs (d : Val) (s : State) : Host.Outcome State Fault Refusal :=
  .next (s.emit (.pauseMs d))

end Sys2Proof.Machine
end

