-- ==== Sys2Proof/Machine/Requests.lean ====
section
/-! DEFINITION. The dispatcher's requests (44_dispatcher R182 to R190), and the CFG event INIT issues. -/

namespace Sys2Proof.Machine

/-- CFG, the event of a pin configuration (30_encoding R85, 10_state R27): the trace records the outcome, and the line
is LOW or released. `S.cfg` is INIT's to write (10_state R22; log 11). -/
def execCfg (ok : Bool) (s : State) : Host.Outcome State Fault Refusal :=
  .next (s.emit (.cfg ok))

/-- The end of INIT once its outcome is drawn (44_dispatcher R182). -/
def State.configured (s : State) (ok : Bool) : State :=
  if ok then { s with cfg := true, pin := .low }.respond statusSuccess 0
  else { s with cfg := false, pin := .undriven }.respond ErrorKind.initFailure.status 0

/-- INIT (44_dispatcher R182). `ARG` is ignored (30_encoding R72). -/
def execInit (_arg : Code) (s : State) : Host.Outcome State Fault Refusal :=
  .next (((s.countDraw).emit (.cfg s.drawnOutcome)).configured s.drawnOutcome)

/-- SEND_CMD (44_dispatcher R184): the index, then the configured check, in the order of 60_exceptions R225. -/
def execSendCmd (index : Code) (s : State) : Host.Outcome State Fault Refusal :=
  match s.lookup (indexOperand index) with
  | .error e => .next (s.raiseError e 0)
  | .ok code =>
    if s.cfg then .next (s.startSession (commandSession s.build code))
    else .next (s.raiseError .initFailure 0)

/-- SEND_RAW (44_dispatcher R186). -/
def execSendRaw (code : Code) (s : State) : Host.Outcome State Fault Refusal :=
  if s.cfg then .next (s.startSession (rawSession s.build (codeOperand code)))
  else .next (s.raiseError .initFailure 0)

/-- LEARN (44_dispatcher R190). `ARG` is ignored (30_encoding R72). -/
def execLearn (_arg : Code) (s : State) : Host.Outcome State Fault Refusal :=
  if s.build.learnAdmitted then .next (s.respond statusSuccess s.build.learnPlaceholder)
  else .refused .learnNotAdmitted

/-- A reserved opcode (44_dispatcher R188): InvalidArgument, and no other change. -/
def reservedRequest (s : State) : Host.Outcome State Fault Refusal :=
  .next (s.raiseError .invalidArgument 0)

/-- Reserved opcode 0x0 (44_dispatcher R188). `ARG` is ignored. -/
def execReservedOp0 (_arg : Code) (s : State) : Host.Outcome State Fault Refusal := reservedRequest s

/-- Reserved opcode 0x5 (44_dispatcher R188). `ARG` is ignored. -/
def execReservedOp5 (_arg : Code) (s : State) : Host.Outcome State Fault Refusal := reservedRequest s

/-- Reserved opcode 0x6 (44_dispatcher R188). `ARG` is ignored. -/
def execReservedOp6 (_arg : Code) (s : State) : Host.Outcome State Fault Refusal := reservedRequest s

/-- Reserved opcode 0x7 (44_dispatcher R188). `ARG` is ignored. -/
def execReservedOp7 (_arg : Code) (s : State) : Host.Outcome State Fault Refusal := reservedRequest s

/-- Reserved opcode 0x8 (44_dispatcher R188). `ARG` is ignored. -/
def execReservedOp8 (_arg : Code) (s : State) : Host.Outcome State Fault Refusal := reservedRequest s

/-- Reserved opcode 0x9 (44_dispatcher R188). `ARG` is ignored. -/
def execReservedOp9 (_arg : Code) (s : State) : Host.Outcome State Fault Refusal := reservedRequest s

/-- Reserved opcode 0xA (44_dispatcher R188). `ARG` is ignored. -/
def execReservedOpA (_arg : Code) (s : State) : Host.Outcome State Fault Refusal := reservedRequest s

/-- Reserved opcode 0xB (44_dispatcher R188). `ARG` is ignored. -/
def execReservedOpB (_arg : Code) (s : State) : Host.Outcome State Fault Refusal := reservedRequest s

/-- Reserved opcode 0xC (44_dispatcher R188). `ARG` is ignored. -/
def execReservedOpC (_arg : Code) (s : State) : Host.Outcome State Fault Refusal := reservedRequest s

/-- Reserved opcode 0xD (44_dispatcher R188). `ARG` is ignored. -/
def execReservedOpD (_arg : Code) (s : State) : Host.Outcome State Fault Refusal := reservedRequest s

/-- Reserved opcode 0xE (44_dispatcher R188). `ARG` is ignored. -/
def execReservedOpE (_arg : Code) (s : State) : Host.Outcome State Fault Refusal := reservedRequest s

/-- Reserved opcode 0xF (44_dispatcher R188). `ARG` is ignored. -/
def execReservedOpF (_arg : Code) (s : State) : Host.Outcome State Fault Refusal := reservedRequest s

end Sys2Proof.Machine
end

