-- ==== Sys2Proof/Machine/Dispatch.lean ====
section
/-! DEFINITION. One arm per constructor of Instr (44_dispatcher R180). -/

namespace Sys2Proof.Machine

def exec (i : Instr) (s : State) : Host.Outcome State Fault Refusal :=
  match i with
  | .init arg => Sys2Proof.Machine.execInit arg s
  | .sendCmd index => Sys2Proof.Machine.execSendCmd index s
  | .sendRaw code => Sys2Proof.Machine.execSendRaw code s
  | .learn arg => Sys2Proof.Machine.execLearn arg s
  | .reservedOp0 arg => Sys2Proof.Machine.execReservedOp0 arg s
  | .reservedOp5 arg => Sys2Proof.Machine.execReservedOp5 arg s
  | .reservedOp6 arg => Sys2Proof.Machine.execReservedOp6 arg s
  | .reservedOp7 arg => Sys2Proof.Machine.execReservedOp7 arg s
  | .reservedOp8 arg => Sys2Proof.Machine.execReservedOp8 arg s
  | .reservedOp9 arg => Sys2Proof.Machine.execReservedOp9 arg s
  | .reservedOpA arg => Sys2Proof.Machine.execReservedOpA arg s
  | .reservedOpB arg => Sys2Proof.Machine.execReservedOpB arg s
  | .reservedOpC arg => Sys2Proof.Machine.execReservedOpC arg s
  | .reservedOpD arg => Sys2Proof.Machine.execReservedOpD arg s
  | .reservedOpE arg => Sys2Proof.Machine.execReservedOpE arg s
  | .reservedOpF arg => Sys2Proof.Machine.execReservedOpF arg s
  | .set level => Sys2Proof.Machine.execSet level s
  | .holdUs d => Sys2Proof.Machine.execHoldUs d s
  | .pauseMs d => Sys2Proof.Machine.execPauseMs d s
  | .cfg ok => Sys2Proof.Machine.execCfg ok s

end Sys2Proof.Machine
end

