-- ==== Sys2Proof/Machine/Cycle.lean ====
section
/-! DEFINITION. The four steps of 44_dispatcher R181 (Accept, Sequence, Take, Reset) and waiting, the choice among them,
the capability port's out-signals, and where the next instruction stands. Step.lean only calls these. -/

namespace Sys2Proof.Machine

/-- Reset (44_dispatcher R181, 70_reset R250). -/
def resetStep (s : State) : Host.Outcome State Fault Refusal := .next s.resetBlock.tick

/-- Nothing is enabled: the Block waits (70_reset R250, 93_implementation_defined U14; log 14). -/
def waitStep (s : State) : Host.Outcome State Fault Refusal := .next s.tick

/-- Accept (44_dispatcher R180, R181): the presented request is decoded and performed, and the Host no longer presents
it. -/
def acceptStep (w : ReqWord) (s : State) : Host.Outcome State Fault Refusal :=
  thenNext (exec (decodeReq w) s) fun t => t.dropRequest.tick

/-- Sequence (44_dispatcher R192): the session's next event is issued, then `upc` advances or the session ends. -/
def sequenceStep (s : State) : Host.Outcome State Fault Refusal :=
  match s.sessionEvent with
  | some e => thenNext (exec e.toInstr s) fun t => t.advance.tick
  | none => .fault .noSessionEvent

/-- Take (44_dispatcher R195). A word of reserved STATUS is a fault of the Block (30_encoding R76; log 9). -/
def takeStep (r : RespWord) (s : State) : Host.Outcome State Fault Refusal :=
  if statusField r = statusReserved then .fault .reservedStatusTaken else .next (s.takeResponse r).tick

/-- The step the Block takes (44_dispatcher R181): reset wins; TRANSMITTING sequences; a full buffer waits to be taken;
else a presented request is accepted (10_state R32). -/
def blockStep (s : State) : Host.Outcome State Fault Refusal :=
  if s.pins.rst then resetStep s
  else
    match s.dstate with
    | .transmitting => sequenceStep s
    | .idle =>
      match s.resp with
      | some r => if s.pins.respReady then takeStep r s else waitStep s
      | none =>
        match s.requests with
        | w :: _ => acceptStep w s
        | [] => waitStep s

/-- The instruction is INIT, the one request that issues an event in its accept step (44_dispatcher R182, R184). -/
def issuesCfg : Instr → Bool
  | .init _ => true
  | .sendCmd _ => false
  | .sendRaw _ => false
  | .learn _ => false
  | .reservedOp0 _ => false
  | .reservedOp5 _ => false
  | .reservedOp6 _ => false
  | .reservedOp7 _ => false
  | .reservedOp8 _ => false
  | .reservedOp9 _ => false
  | .reservedOpA _ => false
  | .reservedOpB _ => false
  | .reservedOpC _ => false
  | .reservedOpD _ => false
  | .reservedOpE _ => false
  | .reservedOpF _ => false
  | .set _ => false
  | .holdUs _ => false
  | .pauseMs _ => false
  | .cfg _ => false

/-- `cap_evt` during the coming step (10_state R31): the event word the Block presents, or none while `cap_valid = 0`. A
CFG is presented with `VAL[0] = 0` (30_encoding R85). -/
def State.capEvt (s : State) : Option EvtWord :=
  if s.pins.rst then none
  else
    match s.dstate with
    | .transmitting => s.sessionEvent.map Event.presentedWord
    | .idle =>
      match s.resp, s.requests with
      | none, w :: _ => if issuesCfg (decodeReq w) then some (Event.cfg false).presentedWord else none
      | _, _ => none

/-- `cap_valid` during the coming step (10_state R31). -/
def State.capValid (s : State) : Bool := s.capEvt.isSome

/-- The Host presents `w` and the Block is ready for it: the next step accepts it (10_state R32; log 13). -/
def State.placeRequest (s : State) (w : ReqWord) : State :=
  { s with dstate := .idle, resp := none, requests := w :: s.requests, pins := { s.pins with rst := false } }

/-- A session of the one event `e` is under way: the next step issues it (44_dispatcher R192; log 13). -/
def State.placeEvent (s : State) (e : Event) : State :=
  { s with dstate := .transmitting, upc := 0, sess := [e], pins := { s.pins with rst := false } }

/-- The event a word stands for; none for a reserved event word (30_encoding R86). -/
def eventOfWord (w : EvtWord) : Option Event :=
  match decode (.evt w) with
  | .ok i => instrEvent i
  | .error _ => none

/-- A word of the opcode table stands where the next step fetches: a word of at most 32 bits as the session's event, a
longer one at the Host port. No event is a reserved event word, so that word is placed nowhere (log 10, log 13). -/
def State.placeTableWord (s : State) (nbits w : Nat) : State :=
  if nbits ≤ 32 then
    match eventOfWord (BitVec.ofNat 32 w) with
    | some e => s.placeEvent e
    | none => s
  else s.placeRequest (BitVec.ofNat 36 w)

end Sys2Proof.Machine
end

