-- ==== Sys2Proof/Machine/Step.lean ====
section
/-! DEFINITION. One step of the machine (44_dispatcher R181), and where it fetches its next instruction. -/

namespace Sys2Proof.Machine

/-- One step: Machine/Cycle.lean's choice among the enabled steps. -/
def step (s : State) : Host.Outcome State Fault Refusal := blockStep s

/-- `s` with the table word `w` of `nbits` bits standing where `step` fetches its next instruction (log 13). -/
def State.withFetchWord (s : State) (nbits w : Nat) : State := s.placeTableWord nbits w

end Sys2Proof.Machine
end

