-- ==== Sys2Proof/Machine/Assembler.lean ====
section
/-! DEFINITION. The assembler of request programs and the written forms of responses and events (30_encoding R88 to
R90). No step uses it: it says which request words a program text stands for. -/

namespace Sys2Proof.Machine

/-- Why a line is no request (30_encoding R88). -/
inductive AsmError
  /-- A numeric operand does not fit its field: 32 bits, or 36 for `.req`. -/
  | tooWide
  /-- A name that is no command symbol of 30_encoding R90. -/
  | unknownSymbol
  /-- Any other text that is none of the forms of 30_encoding R88 and R89. -/
  | malformed
  deriving DecidableEq, Repr

/-- The command symbols and their registry indices (30_encoding R90). -/
def commandSymbols : List (String × Nat) :=
  [("POWER_ON", 0), ("POWER_OFF", 1), ("MODE_COOL", 2), ("MODE_HEAT", 3), ("MODE_FAN", 4),
   ("TEMP_UP", 5), ("TEMP_DOWN", 6), ("FAN_SPEED_1", 7), ("FAN_SPEED_2", 8), ("FAN_SPEED_3", 9)]

/-- The index a symbol names. -/
def symbolIndex (name : List Char) : Option Nat :=
  (commandSymbols.find? fun row => row.1.toList == name).map (·.2)

/-- The value of a digit in base 16; letters of either case (log 19). -/
def digitValue (c : Char) : Option Nat :=
  let n := c.toNat
  if 48 ≤ n ∧ n ≤ 57 then some (n - 48)
  else if 65 ≤ n ∧ n ≤ 70 then some (n - 55)
  else if 97 ≤ n ∧ n ≤ 102 then some (n - 87)
  else none

/-- The number whose digits in base `b` are `cs`, after a prefix of value `acc`. -/
def digitsValue (b acc : Nat) : List Char → Option Nat
  | [] => some acc
  | c :: cs =>
    match digitValue c with
    | some v => if v < b then digitsValue b (acc * b + v) cs else none
    | none => none

/-- A numeral: decimal, or hexadecimal after `0x` (30_encoding R88). -/
def numeral : List Char → Option Nat
  | '0' :: 'x' :: c :: cs => digitsValue 16 0 (c :: cs)
  | c :: cs => digitsValue 10 0 (c :: cs)
  | [] => none

/-- A hexadecimal numeral, the one form `.req` takes (30_encoding R88). -/
def hexNumeral : List Char → Option Nat
  | '0' :: 'x' :: c :: cs => digitsValue 16 0 (c :: cs)
  | _ => none

/-- The text starts as a numeral does (log 19). -/
def startsWithDigit : List Char → Bool
  | c :: _ => decide (48 ≤ c.toNat ∧ c.toNat ≤ 57)
  | [] => false

/-- A numeral that fits 32 bits (30_encoding R88: one that does not is an assembly error). -/
def operand32 (t : List Char) : Except AsmError Code :=
  match numeral t with
  | some n => if n < 2 ^ 32 then .ok (BitVec.ofNat 32 n) else .error .tooWide
  | none => .error .malformed

/-- A symbol's index (30_encoding R90; an unknown symbol is an assembly error, R88). -/
def symbolOperand (t : List Char) : Except AsmError Code :=
  match symbolIndex t with
  | some n => .ok (BitVec.ofNat 32 n)
  | none => .error .unknownSymbol

/-- The index of SEND_CMD: a numeral or a symbol (30_encoding R88), told apart by the first character (log 19). -/
def indexToken (t : List Char) : Except AsmError Code :=
  if startsWithDigit t then operand32 t else symbolOperand t

/-- The word of `.req`: 36 bits, hexadecimal, as written (30_encoding R88); a wider numeral is an error (log 19). -/
def rawWord (t : List Char) : Except AsmError ReqWord :=
  match hexNumeral t with
  | some n => if n < 2 ^ 36 then .ok (BitVec.ofNat 36 n) else .error .tooWide
  | none => .error .malformed

/-- A character that separates the words of a line: a blank, a tab or a carriage return. 30_encoding R88 does not say
which; DESIGN CHOICE (log 19). -/
def isBlank (c : Char) : Bool := c == ' ' || c == '\t' || c == '\r'

/-- The words of a line up to a comment; `cur` holds the current word's characters, last first. -/
def lineTokens (cur : List Char) : List Char → List (List Char)
  | [] => if cur.isEmpty then [] else [cur.reverse]
  | c :: cs =>
    if c == ';' then (if cur.isEmpty then [] else [cur.reverse])
    else if isBlank c then
      (if cur.isEmpty then lineTokens [] cs else cur.reverse :: lineTokens [] cs)
    else lineTokens (c :: cur) cs

/-- A line with no operand. -/
def assemble1 (op : List Char) : Except AsmError ReqWord :=
  if op = "INIT".toList then .ok (reqWord 1 0)
  else if op = "LEARN".toList then .ok (reqWord 4 0)
  else .error .malformed

/-- A line with one operand; `TX` is the one pseudo-instruction (30_encoding R89). -/
def assemble2 (op t : List Char) : Except AsmError ReqWord :=
  if op = "SEND_CMD".toList then (indexToken t).map (reqWord 2)
  else if op = "SEND_RAW".toList then (operand32 t).map (reqWord 3)
  else if op = "TX".toList then (symbolOperand t).map (reqWord 2)
  else if op = ".req".toList then rawWord t
  else .error .malformed

/-- One line of a request program (30_encoding R88): its word, or none for a line that holds at most a comment
(log 19). -/
def assembleLine (line : List Char) : Except AsmError (Option ReqWord) :=
  match lineTokens [] line with
  | [] => .ok none
  | [op] => (assemble1 op).map some
  | [op, t] => (assemble2 op t).map some
  | _ => .error .malformed

/-- A request program: the words of its lines in order (30_encoding R88), or the error of the first line that has one
(log 19). -/
def assemble : List String → Except AsmError (List ReqWord)
  | [] => .ok []
  | line :: rest =>
    match assembleLine line.toList, assemble rest with
    | .error e, _ => .error e
    | .ok _, .error e => .error e
    | .ok none, .ok ws => .ok ws
    | .ok (some w), .ok ws => .ok (w :: ws)

/-- The written form of a response, its data in decimal; none for reserved STATUS 3 (30_encoding R88; log 19). -/
def responseText (r : RespWord) : Option String :=
  if statusField r = statusSuccess then some ("OK " ++ toString (dataField r).toNat)
  else if statusField r = ErrorKind.invalidArgument.status then some "EINVAL"
  else if statusField r = ErrorKind.initFailure.status then some "EINIT"
  else none

/-- The written form of a trace event (30_encoding R82 to R85, R88). -/
def Event.text : Event → String
  | .set .high => "SET HIGH"
  | .set .low => "SET LOW"
  | .holdUs d => "HOLD_US " ++ toString d.toNat
  | .pauseMs d => "PAUSE_MS " ++ toString d.toNat
  | .cfg ok => if ok then "CFG OK" else "CFG FAIL"

end Sys2Proof.Machine
end

