-- ==== Sys2Proof/Safety.lean ====
section
/-! DEFINITION. What counts as a safe state, a legal trace, a quiet run and an honoured timing obligation
(10_state R37, 30_encoding R86, 70_reset R251, R260 to R265). -/

namespace Sys2Proof.Machine

/-- The event word is none of those 30_encoding R86 reserves in the build `b`. -/
abbrev Event.legal (b : Build) (e : Event) : Prop := e.toInstr.wellFormed b = true

/-- No word of the trace is reserved (30_encoding R86, 93_implementation_defined U10). -/
def TraceLegal (b : Build) (trace : List Event) : Prop := ∀ e ∈ trace, e.legal b

/-- The list is a session the Block can have accepted (43_repeat R161): a registry entry's command session, or one
frame of some code. -/
def SessionOf (b : Build) (rom : Vector Code Config.nCmd) (events : List Event) : Prop :=
  (∃ i : Fin Config.nCmd, events = commandSession b rom[i]) ∨ ∃ code : Code, events = rawSession b code

/-- The response is one the Block produces: its STATUS is not the reserved one (30_encoding R76). -/
abbrev ResponseLegal (r : RespWord) : Prop := statusField r ≠ statusReserved

/-- The invariants of 10_state R37, the range of `upc` (10_state R24), what the session and the line are while
transmitting, and the legality of what the Block issues and answers. -/
structure State.Inv (s : State) : Prop where
  /-- 10_state R37 (1). -/
  undriven_iff : s.cfg = false ↔ s.pin = .undriven
  /-- 10_state R37 (2). -/
  idle_low : s.dstate = .idle → s.cfg = true → s.pin = .low
  /-- 10_state R37 (3). -/
  transmitting_configured : s.dstate = .transmitting → s.cfg = true ∧ s.resp = none
  /-- 10_state R37 (4). -/
  idle_upc : s.dstate = .idle → s.upc = 0
  /-- 10_state R24: `upc` never reaches the session's length. -/
  upc_in_session : s.dstate = .transmitting → s.upc < s.sess.length
  /-- 43_repeat R161: the session is one a send built. -/
  session_built : s.dstate = .transmitting → SessionOf s.build s.rom s.sess
  /-- The line is where the events issued so far have driven it, from LOW (42_transmitter R141). -/
  line_follows : s.dstate = .transmitting → s.pin = lineAfter .low (s.sess.take s.upc)
  /-- 30_encoding R76. -/
  response_legal : ∀ r, s.resp = some r → ResponseLegal r
  /-- 30_encoding R86. -/
  trace_legal : TraceLegal s.build s.trace
  /-- 00_scope R8: `REPEAT_COUNT ≥ 1`. -/
  repeats : 1 ≤ s.build.repeatCount

/-- The observation of 00_scope R7: the trace and the responses. -/
def State.observation (s : State) : List Event × List RespWord := (s.trace, s.responses)

/-- The end of a run (44_dispatcher R198): IDLE, the buffer empty, and no further request. -/
abbrev State.runEnded (s : State) : Prop := s.dstate = .idle ∧ s.resp = none ∧ s.requests = []

/-- `rst` is not asserted now or in any scheduled step: the premise "no reset during the session" (70_reset R251). -/
abbrev State.NoReset (s : State) : Prop := s.pins.rst = false ∧ ∀ p ∈ s.schedule, p.rst = false

/-- The accepted requests that have no response taken yet (60_exceptions R224): a session under way, or a full
buffer. -/
def State.unanswered (s : State) : Nat :=
  (if s.dstate = .transmitting then 1 else 0) + (if s.resp.isSome then 1 else 0)

/-- Requests, unanswered requests and responses together: each request has one place among the three
(60_exceptions R224). -/
def State.requestAccount (s : State) : Nat := s.requests.length + s.unanswered + s.responses.length

/-- `|t − d| ≤ HOLD_TOL × d` for a hold of `d` microseconds that really took `t` (70_reset R262). -/
def HoldAccurate (tol : Rat) (d : Nat) (t : Rat) : Prop :=
  (d : Rat) - tol * d ≤ t ∧ t ≤ (d : Rat) + tol * d

/-- A pause of `d` milliseconds that really took `t` milliseconds: at least `d`, and at most `PAUSE_SLACK` longer where
that is bounded (70_reset R264). -/
def PauseAccurate (slack : Option Rat) (d : Nat) (t : Rat) : Prop :=
  (d : Rat) ≤ t ∧ ∀ x, slack = some x → t ≤ (d : Rat) + x

/-- What a timing obligation can be about: an event is issued (10_state R31), a response stands in the buffer (10_state
R26), or the Block is reset (70_reset R250). -/
inductive Happening
  | issued (e : Event)
  | answered
  | reset
  deriving DecidableEq, Repr

/-- What happens in the step from `s` to `t`, in order: a session's last event comes before its response (44_dispatcher
R194), and INIT's CFG before INIT's (44_dispatcher R182). -/
def State.happenings (s t : State) : List Happening :=
  if s.pins.rst then [.reset]
  else
    (t.trace.drop s.trace.length).map .issued ++
      if s.resp.isNone && t.resp.isSome then [.answered] else []

/-- What happens in the next `n` steps, as far as the machine goes on. -/
def timeline : Nat → State → List Happening
  | 0, _ => []
  | n + 1, s =>
    match step s with
    | .next t => s.happenings t ++ timeline n t
    | .fault _ => []
    | .refused _ => []

/-- A happening with its real time, in microseconds. The machine keeps no such time (00_scope R7). -/
structure Stamped where
  what : Happening
  time : Rat

/-- The obligation on three happenings in a row. A hold between two SETs is accurate (70_reset R261, R262). A pause
between two events lasts as 70_reset R264 says. A pause that ends a session lasts at least its time up to the response
(70_reset R265; no upper bound there, log 18). No obligation spans a response or a reset: the time between a session's
last event and the next accepted request is unbounded (70_reset R265), and a reset abandons the session (70_reset
R251). -/
def TripleHonoured (tol : Rat) (slack : Option Rat) (a b c : Stamped) : Prop :=
  match a.what, b.what, c.what with
  | .issued (.set _), .issued (.holdUs d), .issued (.set _) => HoldAccurate tol d.toNat (c.time - a.time)
  | .issued _, .issued (.pauseMs d), .issued _ => PauseAccurate slack d.toNat ((c.time - a.time) / 1000)
  | .issued _, .issued (.pauseMs d), .answered => PauseAccurate none d.toNat ((c.time - a.time) / 1000)
  | _, _, _ => True

/-- The Capability's timing obligations over a stamped timeline (70_reset R261 to R265). -/
def TimingHonoured (tol : Rat) (slack : Option Rat) : List Stamped → Prop
  | a :: b :: c :: rest => TripleHonoured tol slack a b c ∧ TimingHonoured tol slack (b :: c :: rest)
  | _ => True

/-- The stamped timeline is that of the machine's next `n` steps from `s`. -/
def Timed (stamps : List Stamped) (n : Nat) (s : State) : Prop := stamps.map Stamped.what = timeline n s

/-- The number of places where the line rises or falls to `level` along a list of events, from `line`
(42_transmitter R146). -/
def edgesTo (level : Level) (line : Line) : List Event → Nat
  | [] => 0
  | e :: rest =>
    (if e.drive line = lineOfLevel level ∧ line ≠ lineOfLevel level then 1 else 0) +
      edgesTo level (e.drive line) rest

/-- Every SET of the list changes the line's level (42_transmitter R141). -/
def EverySetChanges (line : Line) : List Event → Prop
  | [] => True
  | e :: rest =>
    (∀ l, e = .set l → line ≠ lineOfLevel l) ∧ EverySetChanges (e.drive line) rest

end Sys2Proof.Machine
end

