-- ==== Sys2Proof/Certificates/Slice0/Obligations.lean ====
section
/-! DEFINITION. The statements for the provers (OBLIGATIONS.json lists them). -/

open Sys2Proof Sys2Proof.Machine

/-- Decoding the encoding of any instruction gives it back. -/
def Obligations.DecodeInvertsEncode : Prop :=
  ∀ i : Instr, decode (encode i) = .ok i

/-- A word that decodes is the encoding of what it decodes to. For INIT, LEARN and the reserved opcodes this rests on the
model's choice to keep the ARG that 30_encoding R72 and R73 say is ignored (log 21). -/
def Obligations.EncodeInvertsDecode : Prop :=
  ∀ (f : FetchWord) (i : Instr), decode f = .ok i → encode i = f

/-- Words written out from the encoding tables decode to their instructions. -/
def Obligations.WrittenWordsDecode : Prop :=
  decode (.req 0x100000000) = .ok (.init 0) ∧ decode (.req 0x1FFFFFFFF) = .ok (.init 0xFFFFFFFF) ∧
  decode (.req 0x20000000A) = .ok (.sendCmd 10) ∧ decode (.req 0x320DF10EF) = .ok (.sendRaw 0x20DF10EF) ∧
  decode (.req 0x400000000) = .ok (.learn 0) ∧ decode (.req 0x000000000) = .ok (.reservedOp0 0) ∧
  decode (.req 0x7DEADBEEF) = .ok (.reservedOp7 0xDEADBEEF) ∧ decode (.req 0xF20DF10EF) = .ok (.reservedOpF 0x20DF10EF) ∧
  decode (.evt 0x00000001) = .ok (.set .high) ∧ decode (.evt 0x00000000) = .ok (.set .low) ∧
  decode (.evt 0x40002328) = .ok (.holdUs 9000) ∧ decode (.evt 0x80000064) = .ok (.pauseMs 100) ∧
  decode (.evt 0xC0000001) = .ok (.cfg true) ∧ decode (.evt 0xC0000000) = .ok (.cfg false)

/-- A request's opcode is its top four bits and its operand the 32 bits below. -/
def Obligations.RequestOpcodeMap : Prop :=
  ∀ w : ReqWord,
    let arg : Code := BitVec.ofNat 32 (w.toNat % 2 ^ 32)
    (w.toNat / 2 ^ 32 = 1 → decode (.req w) = .ok (.init arg)) ∧
    (w.toNat / 2 ^ 32 = 2 → decode (.req w) = .ok (.sendCmd arg)) ∧
    (w.toNat / 2 ^ 32 = 3 → decode (.req w) = .ok (.sendRaw arg)) ∧
    (w.toNat / 2 ^ 32 = 4 → decode (.req w) = .ok (.learn arg)) ∧
    (w.toNat / 2 ^ 32 = 0 → decode (.req w) = .ok (.reservedOp0 arg)) ∧
    (w.toNat / 2 ^ 32 = 5 → decode (.req w) = .ok (.reservedOp5 arg)) ∧
    (w.toNat / 2 ^ 32 = 6 → decode (.req w) = .ok (.reservedOp6 arg)) ∧
    (w.toNat / 2 ^ 32 = 7 → decode (.req w) = .ok (.reservedOp7 arg)) ∧
    (w.toNat / 2 ^ 32 = 8 → decode (.req w) = .ok (.reservedOp8 arg)) ∧
    (w.toNat / 2 ^ 32 = 9 → decode (.req w) = .ok (.reservedOp9 arg)) ∧
    (w.toNat / 2 ^ 32 = 10 → decode (.req w) = .ok (.reservedOpA arg)) ∧
    (w.toNat / 2 ^ 32 = 11 → decode (.req w) = .ok (.reservedOpB arg)) ∧
    (w.toNat / 2 ^ 32 = 12 → decode (.req w) = .ok (.reservedOpC arg)) ∧
    (w.toNat / 2 ^ 32 = 13 → decode (.req w) = .ok (.reservedOpD arg)) ∧
    (w.toNat / 2 ^ 32 = 14 → decode (.req w) = .ok (.reservedOpE arg)) ∧
    (w.toNat / 2 ^ 32 = 15 → decode (.req w) = .ok (.reservedOpF arg))

/-- A SET or CFG word with a bit of VAL[29:1] set is refused by name (the model's choice, log 10). -/
def Obligations.ReservedEventWordsRefused : Prop :=
  ∀ w : EvtWord, 2 ≤ w.toNat % 2 ^ 30 →
    (w.toNat / 2 ^ 30 = 0 → decode (.evt w) = .error (.reservedSet (BitVec.ofNat 30 (w.toNat % 2 ^ 30)))) ∧
    (w.toNat / 2 ^ 30 = 3 → decode (.evt w) = .error (.reservedCfg (BitVec.ofNat 30 (w.toNat % 2 ^ 30))))

/-- The number each event's word is. -/
def Obligations.EventWordValues : Prop :=
  (Event.set .high).word = 0x00000001 ∧ (Event.set .low).word = 0x00000000 ∧
  (∀ d : Val, (Event.holdUs d).word.toNat = 2 ^ 30 + d.toNat) ∧
  (∀ d : Val, (Event.pauseMs d).word.toNat = 2 ^ 31 + d.toNat) ∧
  (Event.cfg true).word = 0xC0000001 ∧ (Event.cfg false).word = 0xC0000000 ∧
  (∀ ok, (Event.cfg ok).presentedWord = 0xC0000000) ∧
  (∀ e : Event, (∀ ok, e ≠ .cfg ok) → e.presentedWord = e.word)

/-- A response word's STATUS and DATA fields are what it was built from. -/
def Obligations.ResponseWordFields : Prop :=
  (∀ (st : BitVec 2) (d : Code),
    (respWord st d).toNat = st.toNat * 2 ^ 32 + d.toNat ∧
    statusField (respWord st d) = st ∧ dataField (respWord st d) = d) ∧
  statusSuccess = 0 ∧ ErrorKind.invalidArgument.status = 1 ∧ ErrorKind.initFailure.status = 2

/-- The assembler gives each command symbol, each line form and TX its request word (30_encoding R88 to R90). That a line
which holds only a comment stands for no request is the model's choice (log 19). -/
def Obligations.AssemblerForms : Prop :=
  (∀ row ∈ commandSymbols,
    assembleLine ("TX ".toList ++ row.1.toList) = .ok (some (reqWord 2 (BitVec.ofNat 32 row.2))) ∧
    assembleLine ("SEND_CMD ".toList ++ row.1.toList) = .ok (some (reqWord 2 (BitVec.ofNat 32 row.2)))) ∧
  commandSymbols = [("POWER_ON", 0), ("POWER_OFF", 1), ("MODE_COOL", 2), ("MODE_HEAT", 3), ("MODE_FAN", 4),
    ("TEMP_UP", 5), ("TEMP_DOWN", 6), ("FAN_SPEED_1", 7), ("FAN_SPEED_2", 8), ("FAN_SPEED_3", 9)] ∧
  assemble ["INIT ; configure", "TX POWER_ON", "SEND_CMD 10", "SEND_RAW 0x20DF10EF", "LEARN", "; nothing",
    ".req 0x7DEADBEEF"] =
    .ok [0x100000000, 0x200000000, 0x20000000A, 0x320DF10EF, 0x400000000, 0x7DEADBEEF] ∧
  assemble ["SEND_RAW 0x100000000"] = .error .tooWide ∧ assemble ["TX POWER_UP"] = .error .unknownSymbol ∧
  assemble ["NOP"] = .error .malformed

/-- The state after power-on reset (10_state R36). `capValid = false` rests on the empty request list of State.reset, the
model's choice (log 1); R36 marks `req_ready` and `resp_valid` as derived. -/
def Obligations.PowerOnResetValues : Prop :=
  State.reset.cfg = false ∧ State.reset.dstate = .idle ∧ State.reset.upc = 0 ∧ State.reset.resp = none ∧
  State.reset.rom[0] = 0x20DF10EF ∧
  (∀ i : Fin Config.nCmd, 1 ≤ i.val → State.reset.rom[i] = Config.registryCode i.val) ∧
  State.reset.pin = .undriven ∧ State.reset.trace = [] ∧
  State.reset.reqReady = true ∧ State.reset.respValid = false ∧ State.reset.capValid = false ∧
  (∀ s t : State, s.pins.rst = true → step s = .next t → t.trace = s.trace)

/-- A step with rst asserted resets the Block and releases the line, whatever else could happen (70_reset R250). That it
keeps the Host's requests, the responses and the model's own fields is the model's reading (log 22), and the pin schedule
is the model's (log 2). -/
def Obligations.ResetStepResult : Prop :=
  ∀ s : State, s.pins.rst = true →
    s.capValid = false ∧
    ∃ t, step s = .next t ∧ t.cfg = false ∧ t.dstate = .idle ∧ t.upc = 0 ∧ t.resp = none ∧ t.pin = .undriven ∧
      t.rom = s.rom ∧ t.build = s.build ∧ t.trace = s.trace ∧ t.responses = s.responses ∧
      t.requests = s.requests ∧ t.capAnswers = s.capAnswers ∧ t.draws = s.draws ∧
      t.pins = s.schedule.headD s.pins ∧ t.schedule = s.schedule.tail

/-- Accept: the step performs the presented request's instruction. -/
def Obligations.AcceptRunsPresentedRequest : Prop :=
  ∀ (s : State) (w : ReqWord) (rest : List ReqWord) (i : Instr),
    s.pins.rst = false → s.dstate = .idle → s.resp = none → s.requests = w :: rest → decode (.req w) = .ok i →
    step s = thenNext (exec i s) fun t =>
      { t with requests := rest, pins := s.schedule.headD s.pins, schedule := s.schedule.tail }

/-- Sequence: the step performs the instruction of the event word at upc. -/
def Obligations.SequenceRunsDecodedEvent : Prop :=
  ∀ (s : State) (e : Event) (i : Instr),
    s.pins.rst = false → s.dstate = .transmitting → s.sess[s.upc]? = some e → decode (.evt e.word) = .ok i →
    step s = thenNext (exec i s) fun t =>
      { t with
        upc := if s.upc + 1 = s.sess.length then 0 else s.upc + 1
        dstate := if s.upc + 1 = s.sess.length then .idle else .transmitting
        resp := if s.upc + 1 = s.sess.length then some 0x000000000 else s.resp
        pins := s.schedule.headD s.pins
        schedule := s.schedule.tail }

/-- A Sequence step issues exactly the event at upc and advances or ends the session. The pin schedule is the model's
(log 2). -/
def Obligations.SequenceStepResult : Prop :=
  ∀ (s : State) (e : Event),
    s.pins.rst = false → s.dstate = .transmitting → s.sess[s.upc]? = some e →
    step s = .next
      { s with
        trace := s.trace ++ [e]
        pin := e.drive s.pin
        upc := if s.upc + 1 = s.sess.length then 0 else s.upc + 1
        dstate := if s.upc + 1 = s.sess.length then .idle else .transmitting
        resp := if s.upc + 1 = s.sess.length then some 0x000000000 else s.resp
        pins := s.schedule.headD s.pins
        schedule := s.schedule.tail }

/-- Take: the Host has the word, the buffer is empty, and until then nothing is accepted (44_dispatcher R195). A step
that answers next while resp_ready = 0 is the waiting step of the model's choice (log 14), and that the responses gain
the word at Take is the model's reading (log 15). -/
def Obligations.TakeEmptiesBuffer : Prop :=
  ∀ (s : State) (r : RespWord),
    s.pins.rst = false → s.dstate = .idle → s.resp = some r → statusField r ≠ 3 →
    (s.pins.respReady = true → step s = .next
      { s with resp := none, responses := s.responses ++ [r], pins := s.schedule.headD s.pins, schedule := s.schedule.tail }) ∧
    (s.pins.respReady = false → step s = .next
      { s with pins := s.schedule.headD s.pins, schedule := s.schedule.tail })

/-- With nothing presented the Block waits at IDLE (a waiting step is the model's choice, log 14). -/
def Obligations.IdleWaitsForRequest : Prop :=
  ∀ s : State, s.pins.rst = false → s.runEnded →
    step s = .next { s with pins := s.schedule.headD s.pins, schedule := s.schedule.tail }

/-- A missing session event and a taken response of reserved status are faults (the model's choice, log 8 and log 9). -/
def Obligations.UnreachableStatesFault : Prop :=
  (∀ s : State, s.pins.rst = false → s.dstate = .transmitting → s.sess.length ≤ s.upc →
    step s = .fault .noSessionEvent) ∧
  (∀ (s : State) (r : RespWord), s.pins.rst = false → s.dstate = .idle → s.pins.respReady = true →
    s.resp = some r → statusField r = 3 → step s = .fault .reservedStatusTaken)

/-- INIT configures the line or reports the failure, by the outcome drawn. The two fields of the draw are the model's
(log 3). -/
def Obligations.InitResult : Prop :=
  ∀ (arg : Code) (s : State) (ok : Bool), s.drawnOutcome = ok →
    exec (.init arg) s = .next
      { s with
        cfg := ok
        pin := if ok then .low else .undriven
        trace := s.trace ++ [.cfg ok]
        resp := some (if ok then 0x000000000 else 0x200000000)
        capAnswers := s.capAnswers.tail
        draws := s.draws + 1 }

/-- SEND_CMD: range check, then configured check, then the session of the registry's code. -/
def Obligations.SendCmdResult : Prop :=
  ∀ (index : Code) (s : State),
    (10 ≤ index.toNat → exec (.sendCmd index) s = .next { s with resp := some 0x100000000 }) ∧
    (index.toNat < 10 → s.cfg = false → exec (.sendCmd index) s = .next { s with resp := some 0x200000000 }) ∧
    (∀ h : index.toNat < Config.nCmd, s.cfg = true → exec (.sendCmd index) s = .next
      { s with
        sess := session s.build (s.rom[index.toNat]'h) s.build.repeatCount true
        upc := 0
        dstate := .transmitting })

/-- SEND_RAW: one frame of the code given, or InitFailure. -/
def Obligations.SendRawResult : Prop :=
  ∀ (code : Code) (s : State),
    (s.cfg = false → exec (.sendRaw code) s = .next { s with resp := some 0x200000000 }) ∧
    (s.cfg = true → exec (.sendRaw code) s = .next
      { s with sess := frameEvents code, upc := 0, dstate := .transmitting }) ∧
    (frameEvents code).length = 135

/-- LEARN answers SUCCESS with the placeholder and changes nothing else. -/
def Obligations.LearnResult : Prop :=
  ∀ (arg : Code) (s : State),
    (s.build.learnAdmitted = true → exec (.learn arg) s = .next
      { s with resp := some (0#2 ++ s.build.learnPlaceholder : BitVec 34) }) ∧
    (s.build.learnAdmitted = false → exec (.learn arg) s = .refused .learnNotAdmitted)

/-- Every reserved opcode answers InvalidArgument and changes nothing else (44_dispatcher R188); the all-zero word is one
of them. -/
def Obligations.ReservedOpcodesRaise : Prop :=
  decode (.req 0x000000000) = .ok (.reservedOp0 0) ∧
  ∀ (arg : Code) (s : State),
    exec (.reservedOp0 arg) s = .next { s with resp := some 0x100000000 } ∧
    exec (.reservedOp5 arg) s = .next { s with resp := some 0x100000000 } ∧
    exec (.reservedOp6 arg) s = .next { s with resp := some 0x100000000 } ∧
    exec (.reservedOp7 arg) s = .next { s with resp := some 0x100000000 } ∧
    exec (.reservedOp8 arg) s = .next { s with resp := some 0x100000000 } ∧
    exec (.reservedOp9 arg) s = .next { s with resp := some 0x100000000 } ∧
    exec (.reservedOpA arg) s = .next { s with resp := some 0x100000000 } ∧
    exec (.reservedOpB arg) s = .next { s with resp := some 0x100000000 } ∧
    exec (.reservedOpC arg) s = .next { s with resp := some 0x100000000 } ∧
    exec (.reservedOpD arg) s = .next { s with resp := some 0x100000000 } ∧
    exec (.reservedOpE arg) s = .next { s with resp := some 0x100000000 } ∧
    exec (.reservedOpF arg) s = .next { s with resp := some 0x100000000 }

/-- SET, HOLD_US, PAUSE_MS and CFG: the trace records the event, and only SET and CFG move the line. That a hold or a
pause of any operand completes is the model's choice (log 10), and that CFG leaves S.cfg is its reading (log 11). -/
def Obligations.EventResults : Prop :=
  (∀ (l : Level) (s : State), exec (.set l) s = .next
    { s with trace := s.trace ++ [.set l], pin := match l with | .low => .low | .high => .high }) ∧
  (∀ (d : Val) (s : State), exec (.holdUs d) s = .next { s with trace := s.trace ++ [.holdUs d] }) ∧
  (∀ (d : Val) (s : State), exec (.pauseMs d) s = .next { s with trace := s.trace ++ [.pauseMs d] }) ∧
  (∀ (ok : Bool) (s : State), exec (.cfg ok) s = .next
    { s with trace := s.trace ++ [.cfg ok], pin := if ok then .low else .undriven }) ∧
  Line.undriven ≠ Line.low ∧ Line.undriven ≠ Line.high

/-- INIT and LEARN with any ARG behave as with ARG = 0. -/
def Obligations.IgnoredArgumentHasNoEffect : Prop :=
  ∀ (arg : Code) (s : State),
    exec (decodeReq (reqWord 1 arg)) s = exec (decodeReq 0x100000000) s ∧
    exec (decodeReq (reqWord 4 arg)) s = exec (decodeReq 0x400000000) s

/-- Reserved opcode first, then the index range, then the configured check. -/
def Obligations.ErrorCheckOrder : Prop :=
  ∀ s : State,
    (∀ w : ReqWord, (w.toNat / 2 ^ 32 = 0 ∨ 5 ≤ w.toNat / 2 ^ 32) →
      exec (decodeReq w) s = .next { s with resp := some 0x100000000 }) ∧
    (∀ index : Code, 10 ≤ index.toNat →
      exec (decodeReq (reqWord 2 index)) s = .next { s with resp := some 0x100000000 }) ∧
    (s.cfg = false →
      (∀ index : Code, index.toNat < 10 →
        exec (decodeReq (reqWord 2 index)) s = .next { s with resp := some 0x200000000 }) ∧
      (∀ code : Code, exec (decodeReq (reqWord 3 code)) s = .next { s with resp := some 0x200000000 }))

/-- The registry lookup answers every index below 10 and raises InvalidArgument on every other. -/
def Obligations.LookupIsTotalInRange : Prop :=
  ∀ (s : State) (index : Nat),
    (∀ h : index < Config.nCmd, s.lookup index = .ok (s.rom[index]'h)) ∧
    (10 ≤ index → s.lookup index = .error .invalidArgument) ∧
    State.reset.lookup 0 = .ok 0x20DF10EF

/-- SEND_RAW runs the same whatever the registry holds. -/
def Obligations.SendRawReadsNoRegistry : Prop :=
  ∀ (s : State) (code : Code) (rom : Vector Code Config.nCmd),
    exec (.sendRaw code) { s with rom := rom } =
      thenNext (exec (.sendRaw code) s) fun t => { t with rom := rom }

/-- S.cfg changes only in a reset or in an accepted INIT, which records the new value. -/
def Obligations.OnlyInitOrResetWritesConfigured : Prop :=
  ∀ s t : State, step s = .next t → t.cfg ≠ s.cfg →
    s.pins.rst = true ∨
    (s.dstate = .idle ∧ s.resp = none ∧ t.trace = s.trace ++ [.cfg t.cfg] ∧
      ∃ arg rest, s.requests = reqWord 1 arg :: rest)

/-- No step changes the registry (40_registry R104) or the build parameters (43_repeat R162 says it of REPEAT_COUNT). That
the latter are a field no step writes is the model's choice (log 6). -/
def Obligations.RegistryAndBuildNeverChange : Prop :=
  ∀ s t : State, step s = .next t → t.rom = s.rom ∧ t.build = s.build

/-- A step records exactly the event the Block presents, and a response only when taken. That the responses gain a word
at Take and not when it is written is the model's reading (log 15). -/
def Obligations.ObservationOnlyGrows : Prop :=
  ∀ s t : State, step s = .next t →
    ((s.capEvt = none ∧ t.trace = s.trace) ∨
      ∃ e : Event, s.capEvt = some e.presentedWord ∧ t.trace = s.trace ++ [e]) ∧
    (t.responses = s.responses ∨
      ∃ r, s.resp = some r ∧ t.resp = none ∧ t.responses = s.responses ++ [r])

/-- The dispatcher's state machine. -/
def Obligations.DispatcherTransitions : Prop :=
  ∀ s t : State, step s = .next t → s.pins.rst = false →
    match s.dstate, t.dstate with
    | .idle, .idle => s.resp = none → s.requests ≠ [] → t.resp.isSome = true
    | .idle, .transmitting =>
      s.cfg = true ∧ s.resp = none ∧ t.resp = none ∧ t.upc = 0 ∧
      ∃ w rest, s.requests = w :: rest ∧
        ((∃ index : Code, w = reqWord 2 index ∧ index.toNat < 10) ∨ ∃ code : Code, w = reqWord 3 code)
    | .transmitting, .transmitting =>
      t.upc = s.upc + 1 ∧ s.upc + 1 < s.sess.length ∧ t.sess = s.sess ∧ t.resp = s.resp
    | .transmitting, .idle => s.upc + 1 = s.sess.length ∧ t.upc = 0 ∧ t.resp = some 0x000000000

/-- A request is accepted exactly when req_ready = 1, and is held until then (10_state R32). That a reset step leaves the
Host's requests is the model's reading (log 22). -/
def Obligations.RequestHeldUntilReady : Prop :=
  ∀ s : State, (s.reqReady = true ↔ s.dstate = .idle ∧ s.resp = none) ∧ (s.busy = true → s.reqReady = false) ∧
    ∀ t : State, step s = .next t →
      ((s.pins.rst = true ∨ s.reqReady = false) → t.requests = s.requests) ∧
      (s.pins.rst = false → s.reqReady = true → t.requests = s.requests.tail)

/-- No request is dropped and none is answered twice, but by a reset. That a reset step keeps the Host's requests and the
responses is the model's reading (log 22), and so is counting a response at Take (log 15). -/
def Obligations.EachRequestHasOnePlace : Prop :=
  ∀ s t : State, s.Inv → step s = .next t →
    (s.pins.rst = false → t.requestAccount = s.requestAccount) ∧
    (s.pins.rst = true → t.requests = s.requests ∧ t.responses = s.responses ∧ t.unanswered = 0)

/-- The invariant holds right after reset. -/
def Obligations.InvHoldsAtReset : Prop :=
  State.reset.Inv

/-- Every step keeps the invariant (10_state R37 and 30_encoding R86, inferences the spec marks as its own). -/
def Obligations.StepKeepsInv : Prop :=
  ∀ s t : State, s.Inv → step s = .next t → t.Inv

/-- No state of the invariant reaches a fault, and none a refusal but where a build that does not admit LEARN accepts it
(44_dispatcher R190). Where a full buffer is not taken, which 93 U14 calls stuck, and where no request is presented, the
next state is that of the waiting step, the model's choice (log 14). -/
def Obligations.InvStatesNeverStop : Prop :=
  ∀ s : State, s.Inv →
    (s.build.learnAdmitted = true → ∃ t, step s = .next t) ∧
    (s.build.learnAdmitted = false →
      (s.pins.rst = false ∧ s.dstate = .idle ∧ s.resp = none ∧ (∃ arg rest, s.requests = reqWord 4 arg :: rest) →
        step s = .refused .learnNotAdmitted) ∧
      (¬ (s.pins.rst = false ∧ s.dstate = .idle ∧ s.resp = none ∧ ∃ arg rest, s.requests = reqWord 4 arg :: rest) →
        ∃ t, step s = .next t))

/-- Without a reset a session runs to its end, one event a step, and is answered in the step of its last event. -/
def Obligations.SessionRunsToCompletion : Prop :=
  ∀ s : State, s.dstate = .transmitting → s.upc < s.sess.length → s.NoReset →
    (∀ k, k < s.sess.length - s.upc → ∃ t : State, Host.Core.run core k s = .next t ∧
      t.dstate = .transmitting ∧ t.resp = s.resp ∧ t.upc = s.upc + k ∧ t.sess = s.sess ∧
      t.trace = s.trace ++ (s.sess.drop s.upc).take k) ∧
    ∃ t : State, Host.Core.run core (s.sess.length - s.upc) s = .next t ∧
      t.dstate = .idle ∧ t.upc = 0 ∧ t.resp = some 0x000000000 ∧
      t.trace = s.trace ++ s.sess.drop s.upc ∧ t.pin = lineAfter s.pin (s.sess.drop s.upc) ∧
      t.cfg = s.cfg ∧ t.rom = s.rom ∧ t.build = s.build ∧ t.requests = s.requests ∧ t.responses = s.responses

/-- An accepted SEND_CMD sends its whole repeated session and is then answered. -/
def Obligations.AcceptedCommandTransmits : Prop :=
  ∀ (s : State) (index : Code) (rest : List ReqWord) (h : index.toNat < Config.nCmd),
    s.NoReset → s.dstate = .idle → s.resp = none → s.cfg = true → 1 ≤ s.build.repeatCount →
    s.requests = reqWord 2 index :: rest →
    let events := session s.build (s.rom[index.toNat]'h) s.build.repeatCount true
    (∃ t : State, Host.Core.run core (1 + events.length) s = .next t ∧
      t.trace = s.trace ++ events ∧ t.pin = .low ∧ t.dstate = .idle ∧ t.upc = 0 ∧ t.resp = some 0x000000000 ∧
      t.cfg = true ∧ t.requests = rest ∧ t.responses = s.responses) ∧
    (s.build.repeatCount = 3 → s.build.trailingPause = true → events.length = 408)

/-- An accepted SEND_RAW sends exactly one frame and is then answered. -/
def Obligations.AcceptedRawTransmits : Prop :=
  ∀ (s : State) (code : Code) (rest : List ReqWord),
    s.NoReset → s.dstate = .idle → s.resp = none → s.cfg = true → s.requests = reqWord 3 code :: rest →
    ∃ t : State, Host.Core.run core 136 s = .next t ∧
      t.trace = s.trace ++ frameEvents code ∧ t.pin = .low ∧ t.dstate = .idle ∧ t.upc = 0 ∧
      t.resp = some 0x000000000 ∧ t.cfg = true ∧ t.requests = rest ∧ t.responses = s.responses

/-- Every frame is 67 pulses with the header first and the trailer mark last. -/
def Obligations.FrameHeaderTrailerLength : Prop :=
  ∀ code : Code, (necEncode code).length = 67 ∧
    (necEncode code)[0]? = some ⟨.high, 9000⟩ ∧ (necEncode code)[1]? = some ⟨.low, 4500⟩ ∧
    (necEncode code)[66]? = some ⟨.high, 560⟩ ∧ (frameEvents code).getLast? = some (.set .low)

/-- The encoder is the loop over bits 31 down to 0. -/
def Obligations.EncodeFollowsLoop : Prop :=
  ∀ code : Code, necEncode code =
    [⟨.high, 9000⟩, ⟨.low, 4500⟩] ++
    ((List.range 32).flatMap fun k =>
      [⟨.high, 560⟩, ⟨.low, if code.getLsbD (31 - k) then 1690 else 560⟩]) ++
    [⟨.high, 560⟩]

/-- Bit i of the code sits at positions 64 − 2i and 65 − 2i. -/
def Obligations.BitPulsePositions : Prop :=
  ∀ (code : Code) (i : Nat), i < 32 →
    (necEncode code)[64 - 2 * i]? = some ⟨.high, 560⟩ ∧
    (necEncode code)[65 - 2 * i]? = some ⟨.low, if code.getLsbD i then 1690 else 560⟩

/-- Distinct codes give distinct pulse sequences. -/
def Obligations.EncodeInjective : Prop :=
  ∀ c d : Code, necEncode c = necEncode d → c = d

/-- Even positions are HIGH, odd positions are LOW. -/
def Obligations.LevelsAlternate : Prop :=
  ∀ (code : Code) (p : Nat), p < 67 → ∃ q : Pulse, (necEncode code)[p]? = some q ∧
    q.level = if p % 2 = 0 then .high else .low

/-- A frame lasts 49900 + 1130 × popcount microseconds. -/
def Obligations.FrameTimeFormula : Prop :=
  ∀ code : Code, frameTime code = 49900 + 1130 * popcount code ∧
    popcount code = ((List.range 32).filter fun i => code.getLsbD i).length ∧
    49900 ≤ frameTime code ∧ frameTime code ≤ 86060

/-- A frame is a SET and a HOLD_US for each pulse, then SET(LOW). -/
def Obligations.FrameEventElements : Prop :=
  ∀ code : Code, (frameEvents code).length = 135 ∧ (frameEvents code)[134]? = some (.set .low) ∧
    ∀ p, p < 67 → ∃ q : Pulse, (necEncode code)[p]? = some q ∧
      (frameEvents code)[2 * p]? = some (.set q.level) ∧
      ∃ d : Val, (frameEvents code)[2 * p + 1]? = some (.holdUs d) ∧ d.toNat = q.duration

/-- A frame that starts LOW has 34 rising and 34 falling edges and ends LOW. -/
def Obligations.FrameEdges : Prop :=
  ∀ code : Code, edgesTo .high .low (frameEvents code) = 34 ∧ edgesTo .low .low (frameEvents code) = 34 ∧
    lineAfter .low (frameEvents code) = .low

/-- The lengths of command and raw sessions. -/
def Obligations.SessionLengths : Prop :=
  ∀ (b : Build) (code : Code), 1 ≤ b.repeatCount →
    (b.trailingPause = true → (commandSession b code).length = b.repeatCount * 136) ∧
    (b.trailingPause = false → (commandSession b code).length = b.repeatCount * 136 - 1) ∧
    (rawSession b code).length = 135

/-- Every frame of a command session is the frame of the registry's code. -/
def Obligations.SessionFramesIdentical : Prop :=
  ∀ (b : Build) (code : Code) (r : Nat), r < b.repeatCount →
    ((commandSession b code).drop (136 * r)).take 135 = frameEvents code

/-- The structured form of upc names the same events as the session list. -/
def Obligations.StructuredUpcRefines : Prop :=
  ∀ (b : Build) (code : Code) (n r e : Nat) (paused : Bool),
    let L := 135 + if paused then 1 else 0
    r < n → e < L → (e = 135 → r + 1 < n ∨ b.trailingPause = true) →
    (session b code n paused)[r * L + e]? = slotEvent b code e ∧ (slotEvent b code e).isSome = true

/-- From a LOW line every SET of a session changes the level. -/
def Obligations.EverySessionSetChangesLine : Prop :=
  ∀ (b : Build) (code : Code) (n : Nat) (paused : Bool),
    EverySetChanges .low (session b code n paused) ∧ lineAfter .low (session b code n paused) = .low

/-- The holds and pauses of a session sum to its nominal duration. -/
def Obligations.NominalSessionTimes : Prop :=
  ∀ (b : Build) (code : Code),
    ((commandSession b code).map Event.holdTime).sum = b.repeatCount * frameTime code ∧
    (b.trailingPause = true →
      ((commandSession b code).map Event.pauseTime).sum = b.repeatCount * b.pauseMs.toNat) ∧
    (b.trailingPause = false →
      ((commandSession b code).map Event.pauseTime).sum = (b.repeatCount - 1) * b.pauseMs.toNat) ∧
    ((rawSession b code).map Event.holdTime).sum = frameTime code ∧
    ((rawSession b code).map Event.pauseTime).sum = 0

/-- No session holds a reserved event word. -/
def Obligations.SessionEventsLegal : Prop :=
  ∀ (b : Build) (code : Code) (n : Nat) (paused : Bool), ∀ e ∈ session b code n paused,
    e.legal b ∧ (∀ ok, e ≠ .cfg ok) ∧
    (∀ d, e = .holdUs d → d.toNat = 9000 ∨ d.toNat = 4500 ∨ d.toNat = 560 ∨ d.toNat = 1690)

/-- Under the hold tolerance the bands of the symbols stay apart, and every hold and every pause of an honoured timeline,
wherever it stands, lasts its time (70_reset R262 to R265; R263 and R265 are inferences the spec marks as its own, and that
a trailing pause is measured up to the response is the model's reading, log 18). -/
def Obligations.TimingKeepsSymbolsApart : Prop :=
  ∀ tol : Rat, tol < 1 / 10 →
    (∀ t, HoldAccurate tol 9000 t → 8100 ≤ t ∧ t ≤ 9900) ∧ (∀ t, HoldAccurate tol 4500 t → 4050 ≤ t ∧ t ≤ 4950) ∧
    (∀ t, HoldAccurate tol 1690 t → 1521 ≤ t ∧ t ≤ 1859) ∧ (∀ t, HoldAccurate tol 560 t → 504 ≤ t ∧ t ≤ 616) ∧
    (∀ (slack : Option Rat) (before rest : List Stamped) (l m : Level) (d : Val) (t u v : Rat),
      TimingHonoured tol slack
        (before ++ ⟨.issued (.set l), t⟩ :: ⟨.issued (.holdUs d), u⟩ :: ⟨.issued (.set m), v⟩ :: rest) →
      HoldAccurate tol d.toNat (v - t)) ∧
    (∀ (slack : Option Rat) (before rest : List Stamped) (e g : Event) (d : Val) (t u v : Rat),
      TimingHonoured tol slack
        (before ++ ⟨.issued e, t⟩ :: ⟨.issued (.pauseMs d), u⟩ :: ⟨.issued g, v⟩ :: rest) →
      (d.toNat : Rat) * 1000 ≤ v - t ∧ ∀ x, slack = some x → v - t ≤ ((d.toNat : Rat) + x) * 1000) ∧
    (∀ (slack : Option Rat) (before rest : List Stamped) (e : Event) (d : Val) (t u v : Rat),
      TimingHonoured tol slack
        (before ++ ⟨.issued e, t⟩ :: ⟨.issued (.pauseMs d), u⟩ :: ⟨.answered, v⟩ :: rest) →
      (d.toNat : Rat) * 1000 ≤ v - t)

/-- With the trailing pause, a command's last frame is followed by at least PAUSE_MS of LOW before the response
(70_reset R265, an inference the spec marks as its own; how the time is measured is log 18). -/
def Obligations.TrailingPauseBeforeResponse : Prop :=
  ∀ (s : State) (code : Code) (tol : Rat) (slack : Option Rat) (stamps : List Stamped),
    s.NoReset → s.dstate = .transmitting → s.resp = none → s.build.trailingPause = true →
    s.sess = commandSession s.build code → s.upc + 2 ≤ s.sess.length →
    Timed stamps (s.sess.length - s.upc) s → TimingHonoured tol slack stamps →
    (∃ before t u v, stamps = before ++
        [⟨.issued (.set .low), t⟩, ⟨.issued (.pauseMs s.build.pauseMs), u⟩, ⟨.answered, v⟩] ∧
      (s.build.pauseMs.toNat : Rat) * 1000 ≤ v - t) ∧
    (∃ t, Host.Core.run core (s.sess.length - s.upc - 1) s = .next t ∧ t.pin = .low ∧ t.dstate = .transmitting) ∧
    ∃ t, Host.Core.run core (s.sess.length - s.upc) s = .next t ∧ t.pin = .low ∧ t.resp = some 0x000000000

/-- Between a session's last event and the next accepted request the line is LOW, for as many steps as may be (70_reset
R265, an inference the spec marks as its own; that waiting is a step is the model's choice, log 14). -/
def Obligations.IdleLineStaysLow : Prop :=
  (∀ s t : State, s.Inv → s.dstate = .idle → s.cfg = true → s.pins.rst = false → step s = .next t →
    t.requests = s.requests → t.dstate = .idle ∧ t.cfg = true ∧ t.pin = .low ∧ s.happenings t = []) ∧
  ∀ (s : State) (n : Nat), s.Inv → s.dstate = .idle → s.cfg = true → s.NoReset → s.requests = [] →
    timeline n s = [] ∧
    ∃ t, Host.Core.run core n s = .next t ∧ t.dstate = .idle ∧ t.pin = .low ∧ t.trace = s.trace

/-- No timing obligation spans a response: the obligations before it and those after it are all there are (70_reset R265,
an inference the spec marks as its own). -/
def Obligations.NoObligationAcrossResponse : Prop :=
  ∀ (tol : Rat) (slack : Option Rat) (before after : List Stamped) (v : Rat),
    TimingHonoured tol slack (before ++ ⟨.answered, v⟩ :: after) ↔
      TimingHonoured tol slack (before ++ [⟨.answered, v⟩]) ∧ TimingHonoured tol slack after
end

