-- ==== Sys2Proof/Laws/Encoding.lean ====
section
/-! SUPPORT. What the fields of an assembled word are (30_encoding R70, R75, R80), and that the opcode table's rows are
apart. -/

namespace Sys2Proof

@[simp] theorem opField_reqWord (op : BitVec 4) (arg : Code) : opField (reqWord op arg) = op :=
  BitVec.extractLsb'_append_eq_left

@[simp] theorem argField_reqWord (op : BitVec 4) (arg : Code) : argField (reqWord op arg) = arg :=
  BitVec.extractLsb'_append_eq_right

@[simp] theorem kindField_evtWord (kind : BitVec 2) (val : Val) : kindField (evtWord kind val) = kind :=
  BitVec.extractLsb'_append_eq_left

@[simp] theorem valField_evtWord (kind : BitVec 2) (val : Val) : valField (evtWord kind val) = val :=
  BitVec.extractLsb'_append_eq_right

@[simp] theorem levelOfVal_valOfLevel (l : Level) : levelOfVal (valOfLevel l) = some l := by
  cases l <;> rfl

@[simp] theorem outcomeOfVal_valOfOutcome (ok : Bool) : outcomeOfVal (valOfOutcome ok) = some ok := by
  cases ok <;> rfl

@[simp] theorem Machine.statusField_respWord (st : BitVec 2) (d : Code) :
    Machine.statusField (Machine.respWord st d) = st :=
  BitVec.extractLsb'_append_eq_left

@[simp] theorem Machine.dataField_respWord (st : BitVec 2) (d : Code) :
    Machine.dataField (Machine.respWord st d) = d :=
  BitVec.extractLsb'_append_eq_right

/-- A word is its high part and its low part put together. -/
theorem append_extracted_parts {a b : Nat} (w : BitVec (a + b)) :
    w.extractLsb' b a ++ w.extractLsb' 0 b = w := by simp

/-- A request word is its two fields put together. -/
theorem reqWord_fields (w : ReqWord) : reqWord (opField w) (argField w) = w :=
  append_extracted_parts (a := 4) (b := 32) w

/-- An event word is its two fields put together. -/
theorem evtWord_fields (w : EvtWord) : evtWord (kindField w) (valField w) = w :=
  append_extracted_parts (a := 2) (b := 30) w

/-- No two request rows of the opcode table share a word. -/
theorem requestRows_apart : requestRows.Pairwise fun r t => r.apart t = true := by decide

/-- No two event rows of the opcode table share a word. -/
theorem eventRows_apart : eventRows.Pairwise fun r t => r.apart t = true := by decide

/-- An event's word is the encoding of the instruction that performs it. -/
theorem Machine.encode_toInstr (e : Machine.Event) : encode e.toInstr = .evt e.word := by
  cases e <;> rfl

/-- The event an instruction performs is the one it was made from. -/
@[simp] theorem Machine.instrEvent_toInstr (e : Machine.Event) : Machine.instrEvent e.toInstr = some e := by
  cases e <;> rfl

end Sys2Proof
end

