-- ==== Sys2Proof/Laws/State.lean ====
section
/-! SUPPORT. One lemma per field per update of the state, so that no later proof unfolds a record update. -/

namespace Sys2Proof.Machine

section RespondFields

variable (s : State) (st : BitVec 2) (d : Code)

@[simp] theorem State.respond_cfg : (s.respond st d).cfg = s.cfg := rfl
@[simp] theorem State.respond_dstate : (s.respond st d).dstate = s.dstate := rfl
@[simp] theorem State.respond_upc : (s.respond st d).upc = s.upc := rfl
@[simp] theorem State.respond_sess : (s.respond st d).sess = s.sess := rfl
@[simp] theorem State.respond_resp : (s.respond st d).resp = some (respWord st d) := rfl
@[simp] theorem State.respond_rom : (s.respond st d).rom = s.rom := rfl
@[simp] theorem State.respond_pin : (s.respond st d).pin = s.pin := rfl
@[simp] theorem State.respond_trace : (s.respond st d).trace = s.trace := rfl
@[simp] theorem State.respond_responses : (s.respond st d).responses = s.responses := rfl
@[simp] theorem State.respond_requests : (s.respond st d).requests = s.requests := rfl
@[simp] theorem State.respond_pins : (s.respond st d).pins = s.pins := rfl
@[simp] theorem State.respond_schedule : (s.respond st d).schedule = s.schedule := rfl
@[simp] theorem State.respond_capAnswers : (s.respond st d).capAnswers = s.capAnswers := rfl
@[simp] theorem State.respond_draws : (s.respond st d).draws = s.draws := rfl
@[simp] theorem State.respond_build : (s.respond st d).build = s.build := rfl

end RespondFields

section RaiseErrorFields

variable (s : State) (e : ErrorKind) (d : Code)

@[simp] theorem State.raiseError_cfg : (s.raiseError e d).cfg = s.cfg := rfl
@[simp] theorem State.raiseError_dstate : (s.raiseError e d).dstate = s.dstate := rfl
@[simp] theorem State.raiseError_upc : (s.raiseError e d).upc = s.upc := rfl
@[simp] theorem State.raiseError_sess : (s.raiseError e d).sess = s.sess := rfl
@[simp] theorem State.raiseError_resp : (s.raiseError e d).resp = some (respWord e.status d) := rfl
@[simp] theorem State.raiseError_rom : (s.raiseError e d).rom = s.rom := rfl
@[simp] theorem State.raiseError_pin : (s.raiseError e d).pin = s.pin := rfl
@[simp] theorem State.raiseError_trace : (s.raiseError e d).trace = s.trace := rfl
@[simp] theorem State.raiseError_responses : (s.raiseError e d).responses = s.responses := rfl
@[simp] theorem State.raiseError_requests : (s.raiseError e d).requests = s.requests := rfl
@[simp] theorem State.raiseError_pins : (s.raiseError e d).pins = s.pins := rfl
@[simp] theorem State.raiseError_schedule : (s.raiseError e d).schedule = s.schedule := rfl
@[simp] theorem State.raiseError_capAnswers : (s.raiseError e d).capAnswers = s.capAnswers := rfl
@[simp] theorem State.raiseError_draws : (s.raiseError e d).draws = s.draws := rfl
@[simp] theorem State.raiseError_build : (s.raiseError e d).build = s.build := rfl

end RaiseErrorFields

section EmitFields

variable (s : State) (e : Event)

@[simp] theorem State.emit_cfg : (s.emit e).cfg = s.cfg := rfl
@[simp] theorem State.emit_dstate : (s.emit e).dstate = s.dstate := rfl
@[simp] theorem State.emit_upc : (s.emit e).upc = s.upc := rfl
@[simp] theorem State.emit_sess : (s.emit e).sess = s.sess := rfl
@[simp] theorem State.emit_resp : (s.emit e).resp = s.resp := rfl
@[simp] theorem State.emit_rom : (s.emit e).rom = s.rom := rfl
@[simp] theorem State.emit_pin : (s.emit e).pin = e.drive s.pin := rfl
@[simp] theorem State.emit_trace : (s.emit e).trace = s.trace ++ [e] := rfl
@[simp] theorem State.emit_responses : (s.emit e).responses = s.responses := rfl
@[simp] theorem State.emit_requests : (s.emit e).requests = s.requests := rfl
@[simp] theorem State.emit_pins : (s.emit e).pins = s.pins := rfl
@[simp] theorem State.emit_schedule : (s.emit e).schedule = s.schedule := rfl
@[simp] theorem State.emit_capAnswers : (s.emit e).capAnswers = s.capAnswers := rfl
@[simp] theorem State.emit_draws : (s.emit e).draws = s.draws := rfl
@[simp] theorem State.emit_build : (s.emit e).build = s.build := rfl

end EmitFields

section CountDrawFields

variable (s : State)

@[simp] theorem State.countDraw_cfg : (s.countDraw).cfg = s.cfg := rfl
@[simp] theorem State.countDraw_dstate : (s.countDraw).dstate = s.dstate := rfl
@[simp] theorem State.countDraw_upc : (s.countDraw).upc = s.upc := rfl
@[simp] theorem State.countDraw_sess : (s.countDraw).sess = s.sess := rfl
@[simp] theorem State.countDraw_resp : (s.countDraw).resp = s.resp := rfl
@[simp] theorem State.countDraw_rom : (s.countDraw).rom = s.rom := rfl
@[simp] theorem State.countDraw_pin : (s.countDraw).pin = s.pin := rfl
@[simp] theorem State.countDraw_trace : (s.countDraw).trace = s.trace := rfl
@[simp] theorem State.countDraw_responses : (s.countDraw).responses = s.responses := rfl
@[simp] theorem State.countDraw_requests : (s.countDraw).requests = s.requests := rfl
@[simp] theorem State.countDraw_pins : (s.countDraw).pins = s.pins := rfl
@[simp] theorem State.countDraw_schedule : (s.countDraw).schedule = s.schedule := rfl
@[simp] theorem State.countDraw_capAnswers : (s.countDraw).capAnswers = s.capAnswers.tail := rfl
@[simp] theorem State.countDraw_draws : (s.countDraw).draws = s.draws + 1 := rfl
@[simp] theorem State.countDraw_build : (s.countDraw).build = s.build := rfl

end CountDrawFields

section StartSessionFields

variable (s : State) (es : List Event)

@[simp] theorem State.startSession_cfg : (s.startSession es).cfg = s.cfg := rfl
@[simp] theorem State.startSession_dstate : (s.startSession es).dstate = .transmitting := rfl
@[simp] theorem State.startSession_upc : (s.startSession es).upc = 0 := rfl
@[simp] theorem State.startSession_sess : (s.startSession es).sess = es := rfl
@[simp] theorem State.startSession_resp : (s.startSession es).resp = s.resp := rfl
@[simp] theorem State.startSession_rom : (s.startSession es).rom = s.rom := rfl
@[simp] theorem State.startSession_pin : (s.startSession es).pin = s.pin := rfl
@[simp] theorem State.startSession_trace : (s.startSession es).trace = s.trace := rfl
@[simp] theorem State.startSession_responses : (s.startSession es).responses = s.responses := rfl
@[simp] theorem State.startSession_requests : (s.startSession es).requests = s.requests := rfl
@[simp] theorem State.startSession_pins : (s.startSession es).pins = s.pins := rfl
@[simp] theorem State.startSession_schedule : (s.startSession es).schedule = s.schedule := rfl
@[simp] theorem State.startSession_capAnswers : (s.startSession es).capAnswers = s.capAnswers := rfl
@[simp] theorem State.startSession_draws : (s.startSession es).draws = s.draws := rfl
@[simp] theorem State.startSession_build : (s.startSession es).build = s.build := rfl

end StartSessionFields

section AdvanceFields

variable (s : State)

@[simp] theorem State.advance_cfg : (s.advance).cfg = s.cfg := rfl
@[simp] theorem State.advance_dstate : (s.advance).dstate = if s.atLastEvent then .idle else s.dstate := rfl
@[simp] theorem State.advance_upc : (s.advance).upc = if s.atLastEvent then 0 else s.upc + 1 := rfl
@[simp] theorem State.advance_sess : (s.advance).sess = s.sess := rfl
@[simp] theorem State.advance_resp :
    (s.advance).resp = if s.atLastEvent then some (respWord statusSuccess 0) else s.resp := rfl
@[simp] theorem State.advance_rom : (s.advance).rom = s.rom := rfl
@[simp] theorem State.advance_pin : (s.advance).pin = s.pin := rfl
@[simp] theorem State.advance_trace : (s.advance).trace = s.trace := rfl
@[simp] theorem State.advance_responses : (s.advance).responses = s.responses := rfl
@[simp] theorem State.advance_requests : (s.advance).requests = s.requests := rfl
@[simp] theorem State.advance_pins : (s.advance).pins = s.pins := rfl
@[simp] theorem State.advance_schedule : (s.advance).schedule = s.schedule := rfl
@[simp] theorem State.advance_capAnswers : (s.advance).capAnswers = s.capAnswers := rfl
@[simp] theorem State.advance_draws : (s.advance).draws = s.draws := rfl
@[simp] theorem State.advance_build : (s.advance).build = s.build := rfl

end AdvanceFields

section TakeResponseFields

variable (s : State) (r : RespWord)

@[simp] theorem State.takeResponse_cfg : (s.takeResponse r).cfg = s.cfg := rfl
@[simp] theorem State.takeResponse_dstate : (s.takeResponse r).dstate = s.dstate := rfl
@[simp] theorem State.takeResponse_upc : (s.takeResponse r).upc = s.upc := rfl
@[simp] theorem State.takeResponse_sess : (s.takeResponse r).sess = s.sess := rfl
@[simp] theorem State.takeResponse_resp : (s.takeResponse r).resp = none := rfl
@[simp] theorem State.takeResponse_rom : (s.takeResponse r).rom = s.rom := rfl
@[simp] theorem State.takeResponse_pin : (s.takeResponse r).pin = s.pin := rfl
@[simp] theorem State.takeResponse_trace : (s.takeResponse r).trace = s.trace := rfl
@[simp] theorem State.takeResponse_responses : (s.takeResponse r).responses = s.responses ++ [r] := rfl
@[simp] theorem State.takeResponse_requests : (s.takeResponse r).requests = s.requests := rfl
@[simp] theorem State.takeResponse_pins : (s.takeResponse r).pins = s.pins := rfl
@[simp] theorem State.takeResponse_schedule : (s.takeResponse r).schedule = s.schedule := rfl
@[simp] theorem State.takeResponse_capAnswers : (s.takeResponse r).capAnswers = s.capAnswers := rfl
@[simp] theorem State.takeResponse_draws : (s.takeResponse r).draws = s.draws := rfl
@[simp] theorem State.takeResponse_build : (s.takeResponse r).build = s.build := rfl

end TakeResponseFields

section DropRequestFields

variable (s : State)

@[simp] theorem State.dropRequest_cfg : (s.dropRequest).cfg = s.cfg := rfl
@[simp] theorem State.dropRequest_dstate : (s.dropRequest).dstate = s.dstate := rfl
@[simp] theorem State.dropRequest_upc : (s.dropRequest).upc = s.upc := rfl
@[simp] theorem State.dropRequest_sess : (s.dropRequest).sess = s.sess := rfl
@[simp] theorem State.dropRequest_resp : (s.dropRequest).resp = s.resp := rfl
@[simp] theorem State.dropRequest_rom : (s.dropRequest).rom = s.rom := rfl
@[simp] theorem State.dropRequest_pin : (s.dropRequest).pin = s.pin := rfl
@[simp] theorem State.dropRequest_trace : (s.dropRequest).trace = s.trace := rfl
@[simp] theorem State.dropRequest_responses : (s.dropRequest).responses = s.responses := rfl
@[simp] theorem State.dropRequest_requests : (s.dropRequest).requests = s.requests.tail := rfl
@[simp] theorem State.dropRequest_pins : (s.dropRequest).pins = s.pins := rfl
@[simp] theorem State.dropRequest_schedule : (s.dropRequest).schedule = s.schedule := rfl
@[simp] theorem State.dropRequest_capAnswers : (s.dropRequest).capAnswers = s.capAnswers := rfl
@[simp] theorem State.dropRequest_draws : (s.dropRequest).draws = s.draws := rfl
@[simp] theorem State.dropRequest_build : (s.dropRequest).build = s.build := rfl

end DropRequestFields

section ResetBlockFields

variable (s : State)

@[simp] theorem State.resetBlock_cfg : (s.resetBlock).cfg = false := rfl
@[simp] theorem State.resetBlock_dstate : (s.resetBlock).dstate = .idle := rfl
@[simp] theorem State.resetBlock_upc : (s.resetBlock).upc = 0 := rfl
@[simp] theorem State.resetBlock_sess : (s.resetBlock).sess = [] := rfl
@[simp] theorem State.resetBlock_resp : (s.resetBlock).resp = none := rfl
@[simp] theorem State.resetBlock_rom : (s.resetBlock).rom = s.rom := rfl
@[simp] theorem State.resetBlock_pin : (s.resetBlock).pin = .undriven := rfl
@[simp] theorem State.resetBlock_trace : (s.resetBlock).trace = s.trace := rfl
@[simp] theorem State.resetBlock_responses : (s.resetBlock).responses = s.responses := rfl
@[simp] theorem State.resetBlock_requests : (s.resetBlock).requests = s.requests := rfl
@[simp] theorem State.resetBlock_pins : (s.resetBlock).pins = s.pins := rfl
@[simp] theorem State.resetBlock_schedule : (s.resetBlock).schedule = s.schedule := rfl
@[simp] theorem State.resetBlock_capAnswers : (s.resetBlock).capAnswers = s.capAnswers := rfl
@[simp] theorem State.resetBlock_draws : (s.resetBlock).draws = s.draws := rfl
@[simp] theorem State.resetBlock_build : (s.resetBlock).build = s.build := rfl

end ResetBlockFields

section TickFields

variable (s : State)

@[simp] theorem State.tick_cfg : (s.tick).cfg = s.cfg := rfl
@[simp] theorem State.tick_dstate : (s.tick).dstate = s.dstate := rfl
@[simp] theorem State.tick_upc : (s.tick).upc = s.upc := rfl
@[simp] theorem State.tick_sess : (s.tick).sess = s.sess := rfl
@[simp] theorem State.tick_resp : (s.tick).resp = s.resp := rfl
@[simp] theorem State.tick_rom : (s.tick).rom = s.rom := rfl
@[simp] theorem State.tick_pin : (s.tick).pin = s.pin := rfl
@[simp] theorem State.tick_trace : (s.tick).trace = s.trace := rfl
@[simp] theorem State.tick_responses : (s.tick).responses = s.responses := rfl
@[simp] theorem State.tick_requests : (s.tick).requests = s.requests := rfl
@[simp] theorem State.tick_pins : (s.tick).pins = s.schedule.headD s.pins := rfl
@[simp] theorem State.tick_schedule : (s.tick).schedule = s.schedule.tail := rfl
@[simp] theorem State.tick_capAnswers : (s.tick).capAnswers = s.capAnswers := rfl
@[simp] theorem State.tick_draws : (s.tick).draws = s.draws := rfl
@[simp] theorem State.tick_build : (s.tick).build = s.build := rfl

end TickFields

section ConfiguredFields

variable (s : State) (ok : Bool)

@[simp] theorem State.configured_cfg : (s.configured ok).cfg = ok := by cases ok <;> rfl
@[simp] theorem State.configured_dstate : (s.configured ok).dstate = s.dstate := by cases ok <;> rfl
@[simp] theorem State.configured_upc : (s.configured ok).upc = s.upc := by cases ok <;> rfl
@[simp] theorem State.configured_sess : (s.configured ok).sess = s.sess := by cases ok <;> rfl
@[simp] theorem State.configured_resp :
    (s.configured ok).resp = some (respWord (if ok then statusSuccess else ErrorKind.initFailure.status) 0) := by cases ok <;> rfl
@[simp] theorem State.configured_rom : (s.configured ok).rom = s.rom := by cases ok <;> rfl
@[simp] theorem State.configured_pin : (s.configured ok).pin = if ok then .low else .undriven := by cases ok <;> rfl
@[simp] theorem State.configured_trace : (s.configured ok).trace = s.trace := by cases ok <;> rfl
@[simp] theorem State.configured_responses : (s.configured ok).responses = s.responses := by cases ok <;> rfl
@[simp] theorem State.configured_requests : (s.configured ok).requests = s.requests := by cases ok <;> rfl
@[simp] theorem State.configured_pins : (s.configured ok).pins = s.pins := by cases ok <;> rfl
@[simp] theorem State.configured_schedule : (s.configured ok).schedule = s.schedule := by cases ok <;> rfl
@[simp] theorem State.configured_capAnswers : (s.configured ok).capAnswers = s.capAnswers := by cases ok <;> rfl
@[simp] theorem State.configured_draws : (s.configured ok).draws = s.draws := by cases ok <;> rfl
@[simp] theorem State.configured_build : (s.configured ok).build = s.build := by cases ok <;> rfl

end ConfiguredFields

end Sys2Proof.Machine
end

