-- ==== Sys2Proof/Laws/Ops.lean ====
section
/-! SUPPORT. What each shared operation can do, said once (00_scope R12, 20_memory R51, 44_dispatcher R192), and what an
instruction can answer. -/

namespace Sys2Proof.Machine

@[simp] theorem thenNext_next (s : State) (f : State → State) : thenNext (.next s) f = .next (f s) := rfl

@[simp] theorem thenNext_fault (r : Fault) (f : State → State) : thenNext (.fault r) f = .fault r := rfl

@[simp] theorem thenNext_refused (r : Refusal) (f : State → State) : thenNext (.refused r) f = .refused r := rfl

/-- `thenNext` answers next exactly when what it changes does. -/
theorem thenNext_eq_next {o : Host.Outcome State Fault Refusal} {f : State → State} {t : State} :
    thenNext o f = .next t ↔ ∃ s, o = .next s ∧ t = f s := by
  cases o <;> simp [thenNext, eq_comm]

/-- A lookup in range is the registry's entry (40_registry R102). -/
theorem State.lookup_of_lt (s : State) {i : Nat} (h : i < Config.nCmd) : s.lookup i = .ok s.rom[i] := by
  simp [State.lookup, State.romRead, h]

/-- A lookup out of range raises InvalidArgument (40_registry R103). -/
theorem State.lookup_of_ge (s : State) {i : Nat} (h : ¬ i < Config.nCmd) :
    s.lookup i = .error .invalidArgument := by
  simp [State.lookup, h]

/-- The answer a scenario gives is the one drawn (log 3). -/
@[simp] theorem State.drawnOutcome_cons (s : State) (ok : Bool) (rest : List Bool)
    (h : s.capAnswers = ok :: rest) : s.drawnOutcome = ok := by
  simp [State.drawnOutcome, h]

/-- In TRANSMITTING the session's event is the one at `upc`. -/
theorem State.sessionEvent_transmitting (s : State) (h : s.dstate = .transmitting) :
    s.sessionEvent = s.sess[s.upc]? := by
  simp [State.sessionEvent, h]

/-- An event's instruction emits the event, and does nothing else (42_transmitter R141, R142, 43_repeat R163). -/
theorem exec_toInstr (e : Event) (s : State) : exec e.toInstr s = .next (s.emit e) := by
  cases e <;> rfl

/-- A request word never decodes to an event (30_encoding R71). -/
theorem instrEvent_decodeReq (w : ReqWord) : instrEvent (decodeReq w) = none := by
  unfold decodeReq
  split <;> rfl

/-- What an instruction can do when it answers next: an error response, a session of SEND_CMD or of SEND_RAW, the
response of LEARN, a pin configuration, or one event. -/
theorem exec_next_cases {i : Instr} {s t : State} (h : exec i s = .next t) :
    (∃ e, t = s.raiseError e 0) ∨
    (∃ index, ∃ hi : indexOperand index < Config.nCmd, i = .sendCmd index ∧ s.cfg = true ∧
      t = s.startSession (commandSession s.build s.rom[indexOperand index])) ∨
    (∃ code, i = .sendRaw code ∧ s.cfg = true ∧ t = s.startSession (rawSession s.build code)) ∨
    (∃ arg, i = .learn arg ∧ s.build.learnAdmitted = true ∧
      t = s.respond statusSuccess s.build.learnPlaceholder) ∨
    (∃ arg, i = .init arg ∧ t = ((s.countDraw).emit (.cfg s.drawnOutcome)).configured s.drawnOutcome) ∨
    (∃ e : Event, i = e.toInstr ∧ t = s.emit e) := by
  cases i with
  | init arg =>
    obtain rfl : _ = t := by simpa [exec, execInit] using h
    simp
  | sendCmd index =>
    by_cases hi : indexOperand index < Config.nCmd
    · cases hc : s.cfg with
      | true =>
        obtain rfl : _ = t := by simpa [exec, execSendCmd, s.lookup_of_lt hi, hc] using h
        exact .inr (.inl ⟨index, hi, rfl, rfl, rfl⟩)
      | false =>
        obtain rfl : _ = t := by simpa [exec, execSendCmd, s.lookup_of_lt hi, hc] using h
        exact .inl ⟨_, rfl⟩
    · obtain rfl : _ = t := by simpa [exec, execSendCmd, s.lookup_of_ge hi] using h
      exact .inl ⟨_, rfl⟩
  | sendRaw code =>
    cases hc : s.cfg with
    | true =>
      obtain rfl : _ = t := by simpa [exec, execSendRaw, hc, codeOperand] using h
      simp
    | false =>
      obtain rfl : _ = t := by simpa [exec, execSendRaw, hc] using h
      exact .inl ⟨_, rfl⟩
  | learn arg =>
    cases hl : s.build.learnAdmitted with
    | true =>
      obtain rfl : _ = t := by simpa [exec, execLearn, hl] using h
      simp
    | false => simp [exec, execLearn, hl] at h
  | set l => exact .inr (.inr (.inr (.inr (.inr ⟨.set l, rfl, by simpa [exec, execSet] using h.symm⟩))))
  | holdUs d => exact .inr (.inr (.inr (.inr (.inr ⟨.holdUs d, rfl, by simpa [exec, execHoldUs] using h.symm⟩))))
  | pauseMs d => exact .inr (.inr (.inr (.inr (.inr ⟨.pauseMs d, rfl, by simpa [exec, execPauseMs] using h.symm⟩))))
  | cfg ok => exact .inr (.inr (.inr (.inr (.inr ⟨.cfg ok, rfl, by simpa [exec, execCfg] using h.symm⟩))))
  | _ => exact .inl ⟨.invalidArgument, (Host.Outcome.next.inj h).symm⟩

end Sys2Proof.Machine
end

