-- ==== Sys2Proof/Laws/PerInstr.lean ====
section
/-! SUPPORT. The family TableRow: the encoding of each instruction is a word of its row of spec/opcode_table.json. -/

namespace Sys2Proof.Laws

/-- Masking a word's high part leaves that part alone. -/
theorem append_and_highMask {m n : Nat} (x : BitVec m) (y : BitVec n) :
    (x ++ y).toNat &&& ((2 ^ m - 1) <<< n) = x.toNat <<< n := by
  apply Nat.eq_of_testBit_eq
  intro i
  rw [Nat.testBit_and, BitVec.testBit_toNat, BitVec.getLsbD_append, Nat.testBit_shiftLeft, Nat.testBit_shiftLeft,
    Nat.testBit_two_pow_sub_one, BitVec.testBit_toNat]
  by_cases h : i < n
  · simp [h, Nat.not_le.mpr h]
  · by_cases hm : i - n < m
    · simp [h, hm, Bool.and_comm]
    · simp [h, hm, BitVec.getLsbD_of_ge x (i - n) (Nat.le_of_not_lt hm)]

/-- The row of an instruction's mnemonic covers its word. -/
def TableRow.Statement (i : Instr) : Prop :=
  ∃ r ∈ requestRows ++ eventRows, r.mnemonic = i.mnemonic ∧ r.covers (encode i) = true

/-- A request row covers every word with its opcode. -/
theorem requestRow_statement {i : Instr} (r : Sys2Proof.TableRow) (op : BitVec 4) (arg : Code)
    (hr : r ∈ requestRows) (hn : r.mnemonic = i.mnemonic) (hw : r.width = 36) (hm : r.mask = (2 ^ 4 - 1) <<< 32)
    (hp : r.pattern = op.toNat <<< 32) (he : encode i = .req (reqWord op arg)) : TableRow.Statement i := by
  have h := append_and_highMask op arg
  exact ⟨r, List.mem_append_left _ hr, hn, by simpa [he, TableRow.covers, hw, hm, hp, reqWord] using h⟩

/-- An event row of a kind with a whole operand covers every word of that kind. -/
theorem eventRow_statement {i : Instr} (r : Sys2Proof.TableRow) (kind : BitVec 2) (val : Val)
    (hr : r ∈ eventRows) (hn : r.mnemonic = i.mnemonic) (hw : r.width = 32) (hm : r.mask = (2 ^ 2 - 1) <<< 30)
    (hp : r.pattern = kind.toNat <<< 30) (he : encode i = .evt (evtWord kind val)) : TableRow.Statement i := by
  have h := append_and_highMask kind val
  exact ⟨r, List.mem_append_right _ hr, hn, by simpa [he, TableRow.covers, hw, hm, hp, evtWord] using h⟩

theorem TableRow.init (arg : Code) : TableRow.Statement (.init arg) :=
  requestRow_statement ⟨"INIT", 36, 0x100000000, 0xF00000000⟩ 0x1 arg
    (by decide) rfl rfl rfl rfl rfl

theorem TableRow.sendCmd (index : Code) : TableRow.Statement (.sendCmd index) :=
  requestRow_statement ⟨"SEND_CMD", 36, 0x200000000, 0xF00000000⟩ 0x2 index
    (by decide) rfl rfl rfl rfl rfl

theorem TableRow.sendRaw (code : Code) : TableRow.Statement (.sendRaw code) :=
  requestRow_statement ⟨"SEND_RAW", 36, 0x300000000, 0xF00000000⟩ 0x3 code
    (by decide) rfl rfl rfl rfl rfl

theorem TableRow.learn (arg : Code) : TableRow.Statement (.learn arg) :=
  requestRow_statement ⟨"LEARN", 36, 0x400000000, 0xF00000000⟩ 0x4 arg
    (by decide) rfl rfl rfl rfl rfl

theorem TableRow.reservedOp0 (arg : Code) : TableRow.Statement (.reservedOp0 arg) :=
  requestRow_statement ⟨"RESERVED_OP0", 36, 0x000000000, 0xF00000000⟩ 0x0 arg
    (by decide) rfl rfl rfl rfl rfl

theorem TableRow.reservedOp5 (arg : Code) : TableRow.Statement (.reservedOp5 arg) :=
  requestRow_statement ⟨"RESERVED_OP5", 36, 0x500000000, 0xF00000000⟩ 0x5 arg
    (by decide) rfl rfl rfl rfl rfl

theorem TableRow.reservedOp6 (arg : Code) : TableRow.Statement (.reservedOp6 arg) :=
  requestRow_statement ⟨"RESERVED_OP6", 36, 0x600000000, 0xF00000000⟩ 0x6 arg
    (by decide) rfl rfl rfl rfl rfl

theorem TableRow.reservedOp7 (arg : Code) : TableRow.Statement (.reservedOp7 arg) :=
  requestRow_statement ⟨"RESERVED_OP7", 36, 0x700000000, 0xF00000000⟩ 0x7 arg
    (by decide) rfl rfl rfl rfl rfl

theorem TableRow.reservedOp8 (arg : Code) : TableRow.Statement (.reservedOp8 arg) :=
  requestRow_statement ⟨"RESERVED_OP8", 36, 0x800000000, 0xF00000000⟩ 0x8 arg
    (by decide) rfl rfl rfl rfl rfl

theorem TableRow.reservedOp9 (arg : Code) : TableRow.Statement (.reservedOp9 arg) :=
  requestRow_statement ⟨"RESERVED_OP9", 36, 0x900000000, 0xF00000000⟩ 0x9 arg
    (by decide) rfl rfl rfl rfl rfl

theorem TableRow.reservedOpA (arg : Code) : TableRow.Statement (.reservedOpA arg) :=
  requestRow_statement ⟨"RESERVED_OPA", 36, 0xA00000000, 0xF00000000⟩ 0xA arg
    (by decide) rfl rfl rfl rfl rfl

theorem TableRow.reservedOpB (arg : Code) : TableRow.Statement (.reservedOpB arg) :=
  requestRow_statement ⟨"RESERVED_OPB", 36, 0xB00000000, 0xF00000000⟩ 0xB arg
    (by decide) rfl rfl rfl rfl rfl

theorem TableRow.reservedOpC (arg : Code) : TableRow.Statement (.reservedOpC arg) :=
  requestRow_statement ⟨"RESERVED_OPC", 36, 0xC00000000, 0xF00000000⟩ 0xC arg
    (by decide) rfl rfl rfl rfl rfl

theorem TableRow.reservedOpD (arg : Code) : TableRow.Statement (.reservedOpD arg) :=
  requestRow_statement ⟨"RESERVED_OPD", 36, 0xD00000000, 0xF00000000⟩ 0xD arg
    (by decide) rfl rfl rfl rfl rfl

theorem TableRow.reservedOpE (arg : Code) : TableRow.Statement (.reservedOpE arg) :=
  requestRow_statement ⟨"RESERVED_OPE", 36, 0xE00000000, 0xF00000000⟩ 0xE arg
    (by decide) rfl rfl rfl rfl rfl

theorem TableRow.reservedOpF (arg : Code) : TableRow.Statement (.reservedOpF arg) :=
  requestRow_statement ⟨"RESERVED_OPF", 36, 0xF00000000, 0xF00000000⟩ 0xF arg
    (by decide) rfl rfl rfl rfl rfl

theorem TableRow.set (level : Level) : TableRow.Statement (.set level) :=
  ⟨⟨"SET", 32, 0x00000000, 0xFFFFFFFE⟩, by decide, rfl, by cases level <;> decide⟩

theorem TableRow.holdUs (d : Val) : TableRow.Statement (.holdUs d) :=
  eventRow_statement ⟨"HOLD_US", 32, 0x40000000, 0xC0000000⟩ 1 d (by decide) rfl rfl rfl rfl rfl

theorem TableRow.pauseMs (d : Val) : TableRow.Statement (.pauseMs d) :=
  eventRow_statement ⟨"PAUSE_MS", 32, 0x80000000, 0xC0000000⟩ 2 d (by decide) rfl rfl rfl rfl rfl

theorem TableRow.cfg (ok : Bool) : TableRow.Statement (.cfg ok) :=
  ⟨⟨"CFG", 32, 0xC0000000, 0xFFFFFFFE⟩, by decide, rfl, by cases ok <;> decide⟩

end Sys2Proof.Laws
end

