-- ==== Sys2Proof/Laws/Step.lean ====
section
/-! SUPPORT. What one step can do, said once (44_dispatcher R181). -/

namespace Sys2Proof.Machine

/-- A step that answers next is one of five: Reset, Sequence, Take, waiting, or Accept. -/
theorem step_next_cases {s t : State} (h : step s = .next t) :
    (s.pins.rst = true ∧ t = s.resetBlock.tick) ∨
    (s.pins.rst = false ∧ s.dstate = .transmitting ∧
      ∃ e, s.sess[s.upc]? = some e ∧ t = (s.emit e).advance.tick) ∨
    (s.pins.rst = false ∧ s.dstate = .idle ∧ s.pins.respReady = true ∧
      ∃ r, s.resp = some r ∧ statusField r ≠ statusReserved ∧ t = (s.takeResponse r).tick) ∨
    (s.pins.rst = false ∧ s.dstate = .idle ∧
      ((∃ r, s.resp = some r ∧ s.pins.respReady = false) ∨ (s.resp = none ∧ s.requests = [])) ∧ t = s.tick) ∨
    (s.pins.rst = false ∧ s.dstate = .idle ∧ s.resp = none ∧
      ∃ w rest u, s.requests = w :: rest ∧ exec (decodeReq w) s = .next u ∧ t = u.dropRequest.tick) := by
  unfold step blockStep at h
  cases hr : s.pins.rst with
  | true => simp_all [resetStep]
  | false =>
    cases hd : s.dstate with
    | transmitting =>
      cases he : s.sess[s.upc]? with
      | none => simp [hr, hd, sequenceStep, State.sessionEvent, he] at h
      | some e => simp_all [sequenceStep, State.sessionEvent, exec_toInstr]
    | idle =>
      cases hp : s.resp with
      | some r =>
        cases hy : s.pins.respReady with
        | true =>
          by_cases hs : statusField r = statusReserved
          · simp [hr, hd, hp, hy, takeStep, hs] at h
          · simp_all [takeStep]
        | false => simp_all [waitStep]
      | none =>
        cases hq : s.requests with
        | nil => simp_all [waitStep]
        | cons w rest =>
          simp only [hr, hd, hp, hq, acceptStep, Bool.false_eq_true, if_false] at h
          obtain ⟨u, hu, rfl⟩ := thenNext_eq_next.mp h
          exact .inr (.inr (.inr (.inr ⟨rfl, rfl, rfl, w, rest, u, rfl, hu, rfl⟩)))

/-- A run of no step. -/
theorem core_run_zero (s : State) : Host.Core.run core 0 s = .next s := rfl

/-- A run that begins with a step that answers next. -/
theorem core_run_succ {s t : State} (k : Nat) (h : step s = .next t) :
    Host.Core.run core (k + 1) s = Host.Core.run core k t := by
  have hc : core.step s = .next t := h
  simp only [Host.Core.run, hc]

/-- One step passed on the pins leaves no reset to come where there was none (70_reset R251). -/
theorem State.NoReset.tick {s : State} (h : s.NoReset) : s.tick.NoReset := by
  obtain ⟨h1, h2⟩ := h
  cases hs : s.schedule with
  | nil => exact ⟨by simp [hs, h1], by simp [hs]⟩
  | cons p ps =>
    rw [hs] at h2
    exact ⟨by simp [hs, h2 p], by simpa [hs] using fun q hq => h2 q (List.mem_cons_of_mem p hq)⟩

/-- A Sequence step: the event is issued, and after the session's last one the response follows (44_dispatcher R192,
R194). -/
theorem State.happenings_sequence {s : State} (e : Event) (hr : s.pins.rst = false) :
    s.happenings (s.emit e).advance.tick =
      .issued e :: if s.atLastEvent && s.resp.isNone then [.answered] else [] := by
  have ha : (s.emit e).atLastEvent = s.atLastEvent := rfl
  cases hl : s.atLastEvent <;> cases hp : s.resp <;> simp [State.happenings, hr, ha, hl, hp]

/-- A step that changes neither the trace nor the buffer, and is no reset, adds nothing to the timeline. -/
theorem State.happenings_nil {s t : State} (hr : s.pins.rst = false) (ht : t.trace = s.trace) (hp : t.resp = s.resp) :
    s.happenings t = [] := by
  cases h : s.resp <;> simp [State.happenings, hr, ht, hp, h]

/-- A timeline that begins with a step that answers next. -/
theorem timeline_succ {s t : State} (n : Nat) (h : step s = .next t) :
    timeline (n + 1) s = s.happenings t ++ timeline n t := by
  simp only [timeline, h]

/-- What follows some happenings of an honoured timeline is honoured (70_reset R262 and R264 speak of each hold and
pause). -/
theorem TimingHonoured.of_append {tol : Rat} {slack : Option Rat} {before rest : List Stamped}
    (h : TimingHonoured tol slack (before ++ rest)) : TimingHonoured tol slack rest := by
  induction before with
  | nil => exact h
  | cons a before ih =>
    refine ih ?_
    rw [List.cons_append] at h
    revert h
    generalize before ++ rest = l
    intro h
    match l with
    | [] => trivial
    | [_] => trivial
    | _ :: _ :: _ => exact h.2

end Sys2Proof.Machine
end

