-- ==== Sys2Proof/Tests/Slice0.lean ====
section
/-! SUPPORT. Tests against the spec's own vectors (95_test_vectors), the smoke tests of WellFormed, and for each statement
with hypotheses a witness that meets them. -/

open Sys2Proof Sys2Proof.Machine

namespace Sys2Proof.Tests

/-! ## States for the tests -/

/-- The next state an outcome answers, where it answers one. -/
def nextOf (o : Host.Outcome State Fault Refusal) : Option State :=
  match o with
  | .next t => some t
  | .fault _ => none
  | .refused _ => none

/-- The fault an outcome answers. -/
def faultOf (o : Host.Outcome State Fault Refusal) : Option Fault :=
  match o with
  | .next _ => none
  | .fault r => some r
  | .refused _ => none

/-- A registry whose entry i is 0x20DF10EF for 0 and i else: the OPEN entries at chosen values. -/
def testRom : Vector Code Config.nCmd := #v[0x20DF10EF, 1, 2, 3, 4, 5, 6, 7, 8, 9]

/-- The defaults, with a chosen placeholder. -/
def testBuild : Build := { Config.build with learnPlaceholder := 0xCAFE }

/-- Not configured, IDLE. -/
def coldState : State := { State.reset with rom := testRom, build := testBuild }

/-- Configured, IDLE, the line LOW. -/
def readyState : State := { coldState with cfg := true, pin := .low }

/-- Configured, with a request presented. -/
def askedState (w : ReqWord) : State := { readyState with requests := [w] }

/-- Configured, transmitting a raw frame of 0x80000000, with its first `n` events issued. -/
def sendingState (n : Nat) : State :=
  { readyState with
    dstate := .transmitting, upc := n, sess := frameEvents 0x80000000
    pin := lineAfter .low ((frameEvents 0x80000000).take n) }

/-- Configured, IDLE, with a response to take. -/
def answeredState (r : RespWord) : State := { readyState with resp := some r }

/-- A state with rst asserted. -/
def inReset (s : State) : State := { s with pins := { s.pins with rst := true } }

/-- A state whose Host does not take responses. -/
def notTaking (s : State) : State := { s with pins := { s.pins with respReady := false } }

/-! ## Encoding (30_encoding, 95_test_vectors V-D1 to V-D13) -/

theorem test_decode_init : decode (.req 0b000100000000000000000000000000000000) = .ok (.init 0) := by decide
theorem test_decode_sendCmd : decode (.req 0b001000000000000000000000000000001010) = .ok (.sendCmd 10) := by decide
theorem test_decode_sendRaw : decode (.req 0x320DF10EF) = .ok (.sendRaw 0x20DF10EF) := by decide
theorem test_decode_learn : decode (.req 0b010000000000000000000000000000000000) = .ok (.learn 0) := by decide
theorem test_decode_reserved0 : decode (.req 0x000000000) = .ok (.reservedOp0 0) := by decide
theorem test_decode_reserved5 : decode (.req 0x500000000) = .ok (.reservedOp5 0) := by decide
theorem test_decode_reserved6 : decode (.req 0x612345678) = .ok (.reservedOp6 0x12345678) := by decide
theorem test_decode_reserved7 : decode (.req 0x7DEADBEEF) = .ok (.reservedOp7 0xDEADBEEF) := by decide
theorem test_decode_reserved8 : decode (.req 0x800000001) = .ok (.reservedOp8 1) := by decide
theorem test_decode_reserved9 : decode (.req 0x980000000) = .ok (.reservedOp9 0x80000000) := by decide
theorem test_decode_reservedA : decode (.req 0xA00000002) = .ok (.reservedOpA 2) := by decide
theorem test_decode_reservedB : decode (.req 0xB00000003) = .ok (.reservedOpB 3) := by decide
theorem test_decode_reservedC : decode (.req 0xC00000004) = .ok (.reservedOpC 4) := by decide
theorem test_decode_reservedD : decode (.req 0xD00000005) = .ok (.reservedOpD 5) := by decide
theorem test_decode_reservedE : decode (.req 0xE00000006) = .ok (.reservedOpE 6) := by decide
theorem test_decode_reservedF : decode (.req 0xF20DF10EF) = .ok (.reservedOpF 0x20DF10EF) := by decide
theorem test_decode_set : decode (.evt 0b00000000000000000000000000000001) = .ok (.set .high) := by decide
theorem test_decode_holdUs : decode (.evt 0b01000000000000000010001100101000) = .ok (.holdUs 9000) := by decide
theorem test_decode_pauseMs : decode (.evt 0b10000000000000000000000001100100) = .ok (.pauseMs 100) := by decide
theorem test_decode_cfg : decode (.evt 0b11000000000000000000000000000001) = .ok (.cfg true) := by decide
theorem test_decode_refuses_reserved_set : decode (.evt 0x00000002) = .error (.reservedSet 2) := by decide
theorem test_decode_refuses_reserved_cfg : decode (.evt 0xFFFFFFFF) = .error (.reservedCfg 0x3FFFFFFF) := by decide

/-- The table's numbering: 32 bits are an event word, 40 (36 in whole bytes) a request word, and more is no word. -/
theorem test_decodeTableWord :
    decodeTableWord 32 0x40000230 = some (.holdUs 560) ∧ decodeTableWord 40 0x300000001 = some (.sendRaw 1) ∧
    decodeTableWord 40 0 = some (.reservedOp0 0) ∧ decodeTableWord 40 (2 ^ 36) = none := by decide

/-! ## WellFormed: an ill-formed term for each check (30_encoding R86) -/

theorem test_illFormed_hold : (Instr.holdUs 561).wellFormed Config.build = false := by decide
theorem test_illFormed_pause : (Instr.pauseMs 101).wellFormed Config.build = false := by decide
theorem test_wellFormed_timed : (Instr.holdUs 1690).wellFormed Config.build = true ∧
    (Instr.pauseMs 100).wellFormed Config.build = true := by decide

/-! ## The encoder and the sessions (95_test_vectors T1 to T3, V-S1 to V-S8) -/

/-- T1: the positions of the one-spaces of 0x20DF10EF. -/
theorem test_encode_oneSpaces :
    (List.range 67).filter (fun p => (necEncode 0x20DF10EF)[p]? == some ⟨.low, 1690⟩) =
      [7, 19, 21, 25, 27, 29, 31, 33, 41, 51, 53, 55, 59, 61, 63, 65] := by decide

/-- V-E3 and V-E4: bit 31 lands at position 3 and bit 0 at position 65, with equal frame times. -/
theorem test_encode_endBits :
    (necEncode 0x80000000)[3]? = some ⟨.low, 1690⟩ ∧ (necEncode 0x80000000)[65]? = some ⟨.low, 560⟩ ∧
    (necEncode 1)[65]? = some ⟨.low, 1690⟩ ∧ frameTime 0x80000000 = 51030 ∧ frameTime 1 = 51030 := by decide

/-- V-E1, V-E2 and V-E7: the shortest frame, the longest, and POWER_ON's. -/
theorem test_frameTimes : frameTime 0 = 49900 ∧ frameTime 0xFFFFFFFF = 86060 ∧ frameTime 0x20DF10EF = 67980 := by
  decide

/-- T3: the first 27 and the last 9 event words of the frame of 0x20DF10EF. -/
theorem test_frame_words :
    ((frameEvents 0x20DF10EF).map Event.word).take 18 =
      [0x00000001, 0x40002328, 0x00000000, 0x40001194, 0x00000001, 0x40000230, 0x00000000, 0x40000230, 0x00000001,
       0x40000230, 0x00000000, 0x40000230, 0x00000001, 0x40000230, 0x00000000, 0x4000069A, 0x00000001, 0x40000230] ∧
    ((frameEvents 0x20DF10EF).map Event.word).drop 126 =
      [0x00000000, 0x4000069A, 0x00000001, 0x40000230, 0x00000000, 0x4000069A, 0x00000001, 0x40000230, 0x00000000] := by
  decide

/-- V-S2, V-S4 and V-S5: the lengths with the parameters overridden. -/
theorem test_session_lengths :
    (session { testBuild with trailingPause := false } 0 3 true).length = 407 ∧
    (session testBuild 0 1 true).length = 136 ∧
    (session { testBuild with trailingPause := false } 0 1 true).length = 135 := by decide +kernel

/-- V-S7: the structured form of upc. -/
theorem test_slotEvents :
    slotEvent testBuild 0x20DF10EF 0 = some (.set .high) ∧ slotEvent testBuild 0x20DF10EF 1 = some (.holdUs 9000) ∧
    slotEvent testBuild 0x20DF10EF 134 = some (.set .low) ∧
    slotEvent testBuild 0x20DF10EF 135 = some (.pauseMs 100) := by decide

/-! ## One step of each instruction (95_test_vectors V-R1 to V-D15) -/

/-- V-D4: INIT with ARG set, the outcome 1. -/
theorem test_init_ok :
    (nextOf (step { coldState with requests := [0x1FFFFFFFF], capAnswers := [true] })).map
      (fun t => (t.cfg, t.pin, t.trace, t.resp)) = some (true, .low, [.cfg true], some 0x000000000) := by decide

/-- V-D3: a failed INIT on a configured block. -/
theorem test_init_fail :
    (nextOf (step { askedState 0x100000000 with capAnswers := [false] })).map
      (fun t => (t.cfg, t.pin, t.trace, t.resp)) = some (false, .undriven, [.cfg false], some 0x200000000) := by decide

/-- V-R2: the last valid index starts its session. -/
theorem test_sendCmd_lastIndex :
    (nextOf (exec (.sendCmd 9) readyState)).map (fun t => (t.dstate, t.upc, t.resp, t.sess.length)) =
      some (.transmitting, 0, none, 408) := by decide +kernel

/-- V-R3 to V-R7: the first invalid index, −1, and the two errors of an unconfigured block. -/
theorem test_sendCmd_errors :
    (nextOf (exec (.sendCmd 10) readyState)).map (·.resp) = some (some 0x100000000) ∧
    (nextOf (exec (.sendCmd 0xFFFFFFFF) readyState)).map (·.resp) = some (some 0x100000000) ∧
    (nextOf (exec (.sendCmd 10) coldState)).map (·.resp) = some (some 0x100000000) ∧
    (nextOf (exec (.sendCmd 5) coldState)).map (·.resp) = some (some 0x200000000) := by decide

/-- V-D6 and V-D7. -/
theorem test_sendRaw :
    (nextOf (exec (.sendRaw 0x20DF10EF) readyState)).map (fun t => (t.dstate, t.sess.length, t.trace)) =
      some (.transmitting, 135, []) ∧
    (nextOf (exec (.sendRaw 0x20DF10EF) coldState)).map (fun t => (t.dstate, t.resp)) =
      some (.idle, some 0x200000000) := by decide +kernel

/-- V-D10: LEARN on an unconfigured block. -/
theorem test_learn :
    (nextOf (step { coldState with requests := [0x400000000] })).map (fun t => (t.cfg, t.trace, t.resp)) =
      some (false, [], some 0x00000CAFE) := by decide

/-- V-D11 to V-D13. -/
theorem test_reserved :
    (nextOf (step (askedState 0x000000000))).map (·.resp) = some (some 0x100000000) ∧
    (nextOf (step (askedState 0xF20DF10EF))).map (·.resp) = some (some 0x100000000) ∧
    (nextOf (step { coldState with requests := [0x500000000] })).map (·.resp) = some (some 0x100000000) := by decide

/-- V-T6: the line after the first two events of a frame. -/
theorem test_set_then_hold :
    (nextOf (step (sendingState 0))).map (fun t => (t.pin, t.upc, t.trace)) = some (.high, 1, [.set .high]) ∧
    (nextOf (step (sendingState 1))).map (fun t => (t.pin, t.upc, t.trace)) = some (.high, 2, [.holdUs 9000]) := by
  decide +kernel

/-- V-T5 and R194: the last event of a raw frame leaves the line LOW and answers. -/
theorem test_last_event :
    (nextOf (step (sendingState 134))).map (fun t => (t.pin, t.upc, t.dstate, t.resp)) =
      some (.low, 0, .idle, some 0x000000000) := by decide +kernel

/-- A pause leaves the line (43_repeat R163). -/
theorem test_pause :
    (nextOf (exec (.pauseMs 100) readyState)).map (fun t => (t.pin, t.trace)) = some (.low, [.pauseMs 100]) := by decide

/-- CFG FAIL releases the line (10_state R27). -/
theorem test_cfg_event :
    (nextOf (exec (.cfg false) readyState)).map (fun t => (t.pin, t.trace)) = some (.undriven, [.cfg false]) := by decide

/-- V-D14: no request is accepted while transmitting, nor while a response waits. -/
theorem test_request_held :
    (nextOf (step { sendingState 0 with requests := [7] })).map (·.requests) = some [7] ∧
    (nextOf (step { answeredState 0 with requests := [7] })).map (fun t => (t.requests, t.responses)) =
      some ([7], [0]) := by decide

/-- V-D15: reset inside a session. -/
theorem test_reset_in_session :
    (nextOf (step (inReset { sendingState 100 with trace := [.cfg true] }))).map
      (fun t => (t.cfg, t.pin, t.dstate, t.resp, t.trace)) =
      some (false, .undriven, .idle, none, [.cfg true]) := by decide

/-- From State.reset, a table word of each row stands where the very next step runs it. -/
theorem test_withFetchWord_runs :
    (requestRows.all fun r => (nextOf (step (State.reset.withFetchWord 40 r.pattern))).isSome) = true ∧
    (eventRows.all fun r => (nextOf (step (State.reset.withFetchWord 32 r.pattern))).isSome) = true := by decide

theorem test_withFetchWord_event :
    (nextOf (step (State.reset.withFetchWord 32 0x40002328))).map (·.trace) = some [.holdUs 9000] := by decide

/-- P3's lines (95_test_vectors). -/
theorem test_assemble_P3 :
    assemble ["        SEND_CMD 0              ; before any INIT", "INIT", "SEND_RAW 0x12345678", "INIT",
      "SEND_CMD 10", ".req 0x7DEADBEEF", "LEARN", "SEND_CMD FAN_SPEED_3"] =
    .ok [0x200000000, 0x100000000, 0x312345678, 0x100000000, 0x20000000A, 0x7DEADBEEF, 0x400000000, 0x200000009] := by
  decide

theorem test_texts :
    responseText 0x000000000 = some "OK 0" ∧ responseText 0x100000000 = some "EINVAL" ∧
    responseText 0x200000000 = some "EINIT" ∧ (Event.cfg false).text = "CFG FAIL" ∧
    (Event.holdUs 9000).text = "HOLD_US 9000" := by decide +kernel

/-! ## Witnesses: the hypotheses of the statements are met -/

/-- The invariant holds of a configured idle state. -/
theorem readyState_inv : readyState.Inv := by
  constructor <;> simp [readyState, coldState, State.reset, TraceLegal, testBuild, Config.build]

theorem witness_EncodeInvertsDecode : decode (.req 0x200000001) = .ok (.sendCmd 1) ∧
    decode (.evt 0xC0000000) = .ok (.cfg false) := by decide

theorem witness_RequestOpcodeMap :
    ∀ op : Fin 16, (reqWord (BitVec.ofNat 4 op.val) 0xFFFFFFFF).toNat / 2 ^ 32 = op.val := by decide

theorem witness_ReservedEventWordsRefused :
    (2 ≤ (0x00000002 : EvtWord).toNat % 2 ^ 30 ∧ (0x00000002 : EvtWord).toNat / 2 ^ 30 = 0) ∧
    (2 ≤ (0xFFFFFFFF : EvtWord).toNat % 2 ^ 30 ∧ (0xFFFFFFFF : EvtWord).toNat / 2 ^ 30 = 3) := by decide

theorem witness_EventWordValues : ∀ ok, Event.set .high ≠ .cfg ok := by decide

theorem witness_PowerOnResetValues :
    (inReset (sendingState 1)).pins.rst = true ∧ (nextOf (step (inReset (sendingState 1)))).isSome = true ∧
    1 ≤ (⟨9, by decide⟩ : Fin Config.nCmd).val := by decide

theorem witness_ResetStepResult : (inReset (sendingState 134)).pins.rst = true := by decide

theorem witness_AcceptRunsPresentedRequest :
    (askedState 0x300000000).pins.rst = false ∧ (askedState 0x300000000).dstate = .idle ∧
    (askedState 0x300000000).resp = none ∧ (askedState 0x300000000).requests = [0x300000000] ∧
    decode (.req 0x300000000) = .ok (.sendRaw 0) := by decide

theorem witness_SequenceRunsDecodedEvent :
    (sendingState 3).pins.rst = false ∧ (sendingState 3).dstate = .transmitting ∧
    (sendingState 3).sess[(sendingState 3).upc]? = some (.holdUs 4500) ∧
    decode (.evt (Event.holdUs 4500).word) = .ok (.holdUs 4500) := by decide

theorem witness_SequenceStepResult_last :
    (sendingState 134).pins.rst = false ∧ (sendingState 134).dstate = .transmitting ∧
    (sendingState 134).sess[(sendingState 134).upc]? = some (.set .low) ∧
    (sendingState 134).upc + 1 = (sendingState 134).sess.length := by decide +kernel

theorem witness_TakeEmptiesBuffer :
    (answeredState 0x200000000).pins = ⟨false, true⟩ ∧ (notTaking (answeredState 0x200000000)).pins = ⟨false, false⟩ ∧
    (answeredState 0x200000000).dstate = .idle ∧ (answeredState 0x200000000).resp = some 0x200000000 ∧
    statusField 0x200000000 ≠ 3 := by decide

theorem witness_IdleWaitsForRequest :
    readyState.pins.rst = false ∧ readyState.runEnded := by decide

theorem witness_UnreachableStatesFault :
    ((sendingState 135).pins.rst = false ∧ (sendingState 135).dstate = .transmitting ∧
      (sendingState 135).sess.length ≤ (sendingState 135).upc) ∧
    ((answeredState 0x300000000).pins = ⟨false, true⟩ ∧ (answeredState 0x300000000).dstate = .idle ∧
      statusField 0x300000000 = 3) ∧
    faultOf (step (sendingState 135)) = some .noSessionEvent ∧
    faultOf (step (answeredState 0x300000000)) = some .reservedStatusTaken := by decide +kernel

theorem witness_InitResult :
    { coldState with capAnswers := [true] }.drawnOutcome = true ∧
    { coldState with capAnswers := [false] }.drawnOutcome = false := by decide

/-- The free draw meets the hypothesis too, whatever it is. -/
theorem witness_InitResult_free : coldState.drawnOutcome = Config.cfgOutcome 0 := rfl

theorem witness_SendCmdResult :
    10 ≤ (10 : Code).toNat ∧ 10 ≤ (0xFFFFFFFF : Code).toNat ∧ ((9 : Code).toNat < 10 ∧ coldState.cfg = false) ∧
    ((0 : Code).toNat < Config.nCmd ∧ (9 : Code).toNat < Config.nCmd ∧ readyState.cfg = true) := by decide

theorem witness_SendRawResult : coldState.cfg = false ∧ readyState.cfg = true := by decide

theorem witness_LearnResult : coldState.build.learnAdmitted = true ∧
    { coldState with build := { testBuild with learnAdmitted := false } }.build.learnAdmitted = false := by decide

theorem witness_ErrorCheckOrder :
    (0x0FFFFFFFF : ReqWord).toNat / 2 ^ 32 = 0 ∧ 5 ≤ (0x500000000 : ReqWord).toNat / 2 ^ 32 ∧
    10 ≤ (10 : Code).toNat ∧ coldState.cfg = false ∧ (9 : Code).toNat < 10 := by decide

theorem witness_LookupIsTotalInRange : 9 < Config.nCmd ∧ 10 ≤ 10 := by decide

theorem witness_OnlyInitOrResetWritesConfigured :
    (nextOf (step (inReset readyState))).map (·.cfg) = some false ∧ readyState.cfg = true ∧
    (nextOf (step { coldState with requests := [0x100000000], capAnswers := [true] })).map (·.cfg) = some true ∧
    coldState.cfg = false := by decide

theorem witness_RegistryAndBuildNeverChange : (nextOf (step (sendingState 0))).isSome = true := by decide

theorem witness_ObservationOnlyGrows :
    (sendingState 0).capEvt = some 0x00000001 ∧ (nextOf (step (sendingState 0))).isSome = true ∧
    (askedState 0x100000000).capEvt = some 0xC0000000 ∧ readyState.capEvt = none ∧
    (nextOf (step (answeredState 0))).map (·.responses) = some [0] := by decide

theorem witness_DispatcherTransitions :
    (nextOf (step (askedState 0x400000000))).map (·.dstate) = some .idle ∧
    (nextOf (step (askedState 0x300000000))).map (·.dstate) = some .transmitting ∧
    (nextOf (step (sendingState 133))).map (·.dstate) = some .transmitting ∧
    (nextOf (step (sendingState 134))).map (·.dstate) = some .idle := by decide +kernel

theorem witness_RequestHeldUntilReady :
    (askedState 7).reqReady = true ∧ (nextOf (step (askedState 7))).isSome = true ∧
    (sendingState 0).reqReady = false ∧ (sendingState 0).busy = true ∧ (answeredState 0).reqReady = false ∧
    (inReset (askedState 7)).pins.rst = true ∧ (nextOf (step (inReset (askedState 7)))).map (·.requests) = some [7] := by
  decide

theorem witness_EachRequestHasOnePlace :
    readyState.Inv ∧ (nextOf (step readyState)).isSome = true ∧ readyState.pins.rst = false ∧
    (inReset readyState).Inv ∧ (nextOf (step (inReset readyState))).isSome = true ∧ (inReset readyState).pins.rst = true :=
  ⟨readyState_inv, by decide, by decide, by constructor <;>
    simp [inReset, readyState, coldState, State.reset, TraceLegal, testBuild, Config.build], by decide, by decide⟩

theorem witness_StepKeepsInv : readyState.Inv ∧ (nextOf (step readyState)).isSome = true :=
  ⟨readyState_inv, by decide⟩

/-- Configured, with a request presented, in a build that does not admit LEARN. -/
def barredState (w : ReqWord) : State :=
  { askedState w with build := { testBuild with learnAdmitted := false } }

theorem barredState_inv (w : ReqWord) : (barredState w).Inv := by
  constructor <;> simp [barredState, askedState, readyState, coldState, State.reset, TraceLegal, testBuild, Config.build]

theorem witness_InvStatesNeverStop :
    (readyState.Inv ∧ readyState.build.learnAdmitted = true) ∧
    ((barredState (reqWord 4 7)).Inv ∧ (barredState (reqWord 4 7)).build.learnAdmitted = false ∧
      (barredState (reqWord 4 7)).requests = [reqWord 4 7] ∧ nextOf (step (barredState (reqWord 4 7))) = none) ∧
    ((barredState (reqWord 3 7)).Inv ∧ (nextOf (step (barredState (reqWord 3 7)))).isSome = true) :=
  ⟨⟨readyState_inv, by decide⟩, ⟨barredState_inv _, by decide⟩, barredState_inv _, by decide⟩

theorem witness_SessionRunsToCompletion :
    (sendingState 130).dstate = .transmitting ∧ (sendingState 130).upc < (sendingState 130).sess.length ∧
    (sendingState 130).NoReset ∧ 4 < (sendingState 130).sess.length - (sendingState 130).upc := by decide +kernel

theorem witness_AcceptedCommandTransmits :
    (askedState (reqWord 2 9)).NoReset ∧ (askedState (reqWord 2 9)).dstate = .idle ∧
    (askedState (reqWord 2 9)).resp = none ∧ (askedState (reqWord 2 9)).cfg = true ∧
    1 ≤ (askedState (reqWord 2 9)).build.repeatCount ∧ (askedState (reqWord 2 9)).requests = [reqWord 2 9] ∧
    (9 : Code).toNat < Config.nCmd ∧ (askedState (reqWord 2 9)).build.repeatCount = 3 ∧
    (askedState (reqWord 2 9)).build.trailingPause = true := by decide

theorem witness_AcceptedRawTransmits :
    (askedState (reqWord 3 0)).NoReset ∧ (askedState (reqWord 3 0)).dstate = .idle ∧
    (askedState (reqWord 3 0)).resp = none ∧ (askedState (reqWord 3 0)).cfg = true ∧
    (askedState (reqWord 3 0)).requests = [reqWord 3 0] := by decide

theorem witness_EncodeInjective : necEncode 5 = necEncode 5 := rfl

theorem witness_positions : 0 < 32 ∧ 31 < 32 ∧ 0 < 67 ∧ 66 < 67 := by decide

theorem witness_SessionLengths :
    1 ≤ testBuild.repeatCount ∧ testBuild.trailingPause = true ∧
    { testBuild with trailingPause := false }.trailingPause = false := by decide

theorem witness_SessionFramesIdentical : 2 < testBuild.repeatCount := by decide

theorem witness_StructuredUpcRefines :
    (2 < 3 ∧ 135 < 135 + (if true then 1 else 0) ∧ (2 + 1 < 3 ∨ testBuild.trailingPause = true)) ∧
    (0 < 1 ∧ 134 < 135 + (if false then 1 else 0) ∧ ¬ (134 = 135)) := by decide

theorem witness_SessionEventsLegal : Event.holdUs 4500 ∈ session testBuild 0 1 false := by decide

theorem witness_TimingKeepsSymbolsApart :
    (1 : Rat) / 20 < 1 / 10 ∧ HoldAccurate (1 / 20) 9000 9450 ∧ HoldAccurate (1 / 20) 4500 4500 ∧
    HoldAccurate (1 / 20) 1690 1610 ∧ HoldAccurate (1 / 20) 560 588 ∧
    TimingHonoured (1 / 20) (some 5)
      [⟨.issued (.set .low), 0⟩, ⟨.issued (.holdUs 1690), 1⟩, ⟨.issued (.set .high), 1700⟩,
       ⟨.issued (.holdUs 560), 1701⟩, ⟨.issued (.set .low), 2260⟩, ⟨.issued (.pauseMs 100), 2261⟩,
       ⟨.issued (.set .high), 103000⟩, ⟨.issued (.set .low), 103560⟩, ⟨.issued (.pauseMs 100), 103561⟩,
       ⟨.answered, 303560⟩] := by
  refine ⟨by norm_num, by norm_num [HoldAccurate], by norm_num [HoldAccurate], by norm_num [HoldAccurate],
    by norm_num [HoldAccurate], ?_⟩
  norm_num [TimingHonoured, TripleHonoured, HoldAccurate, PauseAccurate, show (1690 : Val).toNat = 1690 from rfl,
    show (560 : Val).toNat = 560 from rfl, show (100 : Val).toNat = 100 from rfl]
  simp

/-- A hold that is too short is a breach wherever it stands (70_reset R262). -/
theorem test_later_short_hold_breaches :
    ¬ TimingHonoured (1 / 20) none
      [⟨.issued (.set .low), 0⟩, ⟨.issued (.holdUs 1690), 1⟩, ⟨.issued (.set .high), 1690⟩,
       ⟨.issued (.holdUs 560), 1691⟩, ⟨.issued (.set .low), 2190⟩] := by
  norm_num [TimingHonoured, TripleHonoured, HoldAccurate, show (1690 : Val).toNat = 1690 from rfl,
    show (560 : Val).toNat = 560 from rfl]

/-- A build whose command session is one frame and its pause. -/
def onceBuild : Build := { testBuild with repeatCount := 1 }

/-- The command session of one frame with its last two events left. -/
def pausingState : State :=
  { readyState with build := onceBuild, dstate := .transmitting, upc := 134, sess := commandSession onceBuild 0 }

/-- A stamped end of that session: the response comes 130 ms after SET(LOW). -/
def pausingStamps : List Stamped :=
  [⟨.issued (.set .low), 0⟩, ⟨.issued (.pauseMs 100), 2⟩, ⟨.answered, 130000⟩]

theorem witness_TrailingPauseBeforeResponse :
    (pausingState.NoReset ∧ pausingState.dstate = .transmitting ∧ pausingState.resp = none ∧
      pausingState.build.trailingPause = true ∧ pausingState.sess = commandSession pausingState.build 0 ∧
      pausingState.upc + 2 ≤ pausingState.sess.length) ∧
    Timed pausingStamps (pausingState.sess.length - pausingState.upc) pausingState ∧
    TimingHonoured (1 / 20) none pausingStamps := by
  refine ⟨by decide +kernel, ?_, ?_⟩
  · have h : pausingStamps.map Stamped.what = timeline 2 pausingState := by decide +kernel
    have hl : pausingState.sess.length - pausingState.upc = 2 := by decide +kernel
    rw [Timed, h, hl]
  · simp only [pausingStamps, TimingHonoured, TripleHonoured, PauseAccurate, show (100 : Val).toNat = 100 from rfl]
    exact ⟨⟨by norm_num, by simp⟩, trivial⟩

theorem witness_IdleLineStaysLow :
    readyState.Inv ∧ readyState.dstate = .idle ∧ readyState.cfg = true ∧ readyState.NoReset ∧
    readyState.requests = [] ∧ (nextOf (step readyState)).map (·.requests) = some readyState.requests :=
  ⟨readyState_inv, by decide⟩

/-- A hold or a pause longer than its nominal time by any amount is no breach across a response (70_reset R265). -/
theorem witness_NoObligationAcrossResponse :
    TimingHonoured (1 / 20) (some 0)
      [⟨.issued (.pauseMs 100), 0⟩, ⟨.answered, 100000⟩, ⟨.issued (.set .high), 900000000⟩] := by
  simp [TimingHonoured, TripleHonoured]

/-- A trailing pause cut short of its time is a breach (70_reset R265). -/
theorem test_short_trailing_pause_breaches :
    ¬ TimingHonoured (1 / 20) none [⟨.issued (.set .low), 0⟩, ⟨.issued (.pauseMs 100), 2⟩, ⟨.answered, 99000⟩] := by
  simp only [TimingHonoured, TripleHonoured, PauseAccurate, show (100 : Val).toNat = 100 from rfl]
  norm_num

/-- INIT's step: the CFG event, then its response; a reset step: the reset alone (44_dispatcher R182, 70_reset R250). -/
theorem test_timeline :
    timeline 1 { askedState 0x100000000 with capAnswers := [true] } = [.issued (.cfg true), .answered] ∧
    timeline 1 (inReset (sendingState 5)) = [.reset] := by decide

end Sys2Proof.Tests
end

section
/-! ## What a step adds to the observation (00_scope R7)

The trace grows by the event of the Capability port (10_state R31) and by no other; the responses grow at Take alone
(44_dispatcher R195). -/

namespace Sys2Proof.Machine

section CapabilityPort

variable {s : State}

/-- In reset the Block presents no event. -/
theorem State.capEvt_of_rst (hr : s.pins.rst = true) : s.capEvt = none := by
  simp [State.capEvt, hr]

/-- In TRANSMITTING the Block presents the session's event at `upc`. -/
theorem State.capEvt_of_transmitting (hr : s.pins.rst = false) (hd : s.dstate = .transmitting) :
    s.capEvt = s.sess[s.upc]?.map Event.presentedWord := by
  simp [State.capEvt, hr, hd, State.sessionEvent_transmitting]

/-- In IDLE with a full buffer no request is accepted, so that no event is presented. -/
theorem State.capEvt_of_response (hd : s.dstate = .idle) {r : RespWord} (hp : s.resp = some r) :
    s.capEvt = none := by
  simp [State.capEvt, hd, hp]

/-- In IDLE with no request presented no event is presented. -/
theorem State.capEvt_of_no_request (hd : s.dstate = .idle) (hq : s.requests = []) : s.capEvt = none := by
  simp [State.capEvt, hd, hq]

/-- In IDLE with an empty buffer the presented request decides: INIT presents a CFG, every other request no event. -/
theorem State.capEvt_of_request (hr : s.pins.rst = false) (hd : s.dstate = .idle) (hp : s.resp = none)
    {w : ReqWord} {rest : List ReqWord} (hq : s.requests = w :: rest) :
    s.capEvt = if issuesCfg (decodeReq w) then some (Event.cfg false).presentedWord else none := by
  simp [State.capEvt, hr, hd, hp, hq]

end CapabilityPort

/-- The outcome of a CFG does not show in the word presented for it (30_encoding R85). -/
theorem Event.presentedWord_cfg (ok : Bool) : (Event.cfg ok).presentedWord = (Event.cfg false).presentedWord := rfl

/-- INIT is the one instruction that issues an event in its accept step (44_dispatcher R182). -/
theorem issuesCfg_eq_true {i : Instr} : issuesCfg i = true ↔ ∃ arg, i = .init arg := by
  cases i <;> simp [issuesCfg]

/-- No instruction adds a response to those the Host has: only Take does (44_dispatcher R195). -/
theorem exec_responses {i : Instr} {s t : State} (h : exec i s = .next t) : t.responses = s.responses := by
  obtain ⟨_, rfl⟩ | ⟨_, _, _, _, rfl⟩ | ⟨_, _, _, rfl⟩ | ⟨_, _, _, rfl⟩ | ⟨_, _, rfl⟩ | ⟨_, _, rfl⟩ :=
    exec_next_cases h <;> simp

/-- INIT records the CFG of the outcome drawn (44_dispatcher R182). -/
theorem exec_init_trace {arg : Code} {s t : State} (h : exec (.init arg) s = .next t) :
    t.trace = s.trace ++ [.cfg s.drawnOutcome] := by
  obtain rfl := Host.Outcome.next.inj h
  simp

/-- An instruction that is neither INIT nor an event leaves the trace. -/
theorem exec_trace_of_not_issuesCfg {i : Instr} {s t : State} (hc : issuesCfg i = false)
    (he : instrEvent i = none) (h : exec i s = .next t) : t.trace = s.trace := by
  obtain ⟨_, rfl⟩ | ⟨_, _, _, _, rfl⟩ | ⟨_, _, _, rfl⟩ | ⟨_, _, _, rfl⟩ | ⟨_, rfl, _⟩ | ⟨e, rfl, _⟩ :=
    exec_next_cases h
  · simp
  · simp
  · simp
  · simp
  · cases hc -- `i` is INIT
  · simp at he -- `i` is an event

/-- A step records exactly the event the Block presents, and none where it presents none (10_state R28, R31). -/
theorem step_trace {s t : State} (h : step s = .next t) :
    (s.capEvt = none ∧ t.trace = s.trace) ∨
      ∃ e : Event, s.capEvt = some e.presentedWord ∧ t.trace = s.trace ++ [e] := by
  obtain ⟨hr, rfl⟩ | ⟨hr, hd, e, he, rfl⟩ | ⟨_, hd, _, r, hp, _, rfl⟩ | ⟨_, hd, hw, rfl⟩ |
    ⟨hr, hd, hp, w, rest, u, hq, hu, rfl⟩ := step_next_cases h
  · -- Reset
    exact .inl ⟨State.capEvt_of_rst hr, by simp⟩
  · -- Sequence
    exact .inr ⟨e, by simp [State.capEvt_of_transmitting hr hd, he], by simp⟩
  · -- Take
    exact .inl ⟨State.capEvt_of_response hd hp, by simp⟩
  · -- waiting
    obtain ⟨r, hp, _⟩ | ⟨_, hq⟩ := hw
    · exact .inl ⟨State.capEvt_of_response hd hp, by simp⟩
    · exact .inl ⟨State.capEvt_of_no_request hd hq, by simp⟩
  · -- Accept
    have hev := State.capEvt_of_request hr hd hp hq
    cases hc : issuesCfg (decodeReq w) with
    | true =>
      obtain ⟨arg, hi⟩ := issuesCfg_eq_true.mp hc
      rw [hi] at hu
      exact .inr ⟨.cfg s.drawnOutcome, by simp [hev, hc, Event.presentedWord_cfg s.drawnOutcome],
        by simp [exec_init_trace hu]⟩
    | false =>
      exact .inl ⟨by simp [hev, hc], by simp [exec_trace_of_not_issuesCfg hc (instrEvent_decodeReq w) hu]⟩

/-- A step leaves the responses, or takes the word of a full buffer (44_dispatcher R195). -/
theorem step_responses {s t : State} (h : step s = .next t) :
    t.responses = s.responses ∨
      ∃ r, s.resp = some r ∧ t.resp = none ∧ t.responses = s.responses ++ [r] := by
  obtain ⟨_, rfl⟩ | ⟨_, _, _, _, rfl⟩ | ⟨_, _, _, r, hp, _, rfl⟩ | ⟨_, _, _, rfl⟩ |
    ⟨_, _, _, _, _, u, _, hu, rfl⟩ := step_next_cases h
  · exact .inl (by simp) -- Reset
  · exact .inl (by simp) -- Sequence
  · exact .inr ⟨r, hp, by simp, by simp⟩ -- Take
  · exact .inl (by simp) -- waiting
  · exact .inl (by simp [exec_responses hu]) -- Accept

/-- Settles O29: each of the five steps adds the presented event to the trace, and Take alone adds to the responses. -/
theorem observationOnlyGrows : Obligations.ObservationOnlyGrows :=
  fun _ _ h => ⟨step_trace h, step_responses h⟩

end Sys2Proof.Machine
end

section
/-! ## What an accepted request can do (44_dispatcher R180, R181)

`step_next_cases` says which of the five steps is taken; here stand what the Accept step's request can be, and the
choice of the step where the state fixes it. -/

namespace Sys2Proof.Machine

/-- A request word is its opcode and its ARG (30_encoding R70). -/
theorem reqWord_argField {w : ReqWord} {op : BitVec 4} (h : opField w = op) : reqWord op (argField w) = w :=
  h ▸ reqWord_fields w

/-- No request word is lost by decoding (30_encoding R71, R73). -/
theorem encode_decodeReq (w : ReqWord) : encode (decodeReq w) = .req w := by
  unfold decodeReq
  split
  case h_16 => -- the one opcode the named arms leave
    refine congrArg FetchWord.req (reqWord_argField ?_)
    generalize opField w = op at *
    revert op
    decide
  all_goals exact congrArg FetchWord.req (reqWord_argField ‹_›)

/-- The word is the one of the instruction it decodes to. -/
theorem req_eq_encode_of_decodeReq {w : ReqWord} {i : Instr} (h : decodeReq w = i) : .req w = encode i :=
  h ▸ (encode_decodeReq w).symm

/-- What an accepted request word can do when it answers next: an error response, a session of SEND_CMD or of SEND_RAW,
the response of LEARN, or INIT's pin configuration. -/
theorem exec_decodeReq_cases {w : ReqWord} {s u : State} (h : exec (decodeReq w) s = .next u) :
    (∃ e, u = s.raiseError e 0) ∨
    (∃ index, ∃ hi : indexOperand index < Config.nCmd, w = reqWord 2 index ∧ s.cfg = true ∧
      u = s.startSession (commandSession s.build s.rom[indexOperand index])) ∨
    (∃ code, w = reqWord 3 code ∧ s.cfg = true ∧ u = s.startSession (rawSession s.build code)) ∨
    (∃ arg, w = reqWord 4 arg ∧ u = s.respond statusSuccess s.build.learnPlaceholder) ∨
    (∃ arg, w = reqWord 1 arg ∧
      u = ((s.countDraw).emit (.cfg s.drawnOutcome)).configured s.drawnOutcome) := by
  obtain he | ⟨index, hi, hw, hc, hu⟩ | ⟨code, hw, hc, hu⟩ | ⟨arg, hw, _, hu⟩ | ⟨arg, hw, hu⟩ | ⟨e, hw, _⟩ :=
    exec_next_cases h
  · exact .inl he
  · exact .inr (.inl ⟨index, hi, FetchWord.req.inj (req_eq_encode_of_decodeReq hw), hc, hu⟩)
  · exact .inr (.inr (.inl ⟨code, FetchWord.req.inj (req_eq_encode_of_decodeReq hw), hc, hu⟩))
  · exact .inr (.inr (.inr (.inl ⟨arg, FetchWord.req.inj (req_eq_encode_of_decodeReq hw), hu⟩)))
  · exact .inr (.inr (.inr (.inr ⟨arg, FetchWord.req.inj (req_eq_encode_of_decodeReq hw), hu⟩)))
  · -- an event is no request
    have hn := instrEvent_decodeReq w
    simp [hw] at hn

/-- No instruction changes the requests the Host holds: the Accept step drops the first. -/
theorem exec_requests {i : Instr} {s t : State} (h : exec i s = .next t) : t.requests = s.requests := by
  obtain ⟨_, rfl⟩ | ⟨_, _, _, _, rfl⟩ | ⟨_, _, _, rfl⟩ | ⟨_, _, _, rfl⟩ | ⟨_, _, rfl⟩ | ⟨_, _, rfl⟩ :=
    exec_next_cases h <;> simp

section StepChoice

variable {s : State}

/-- With rst asserted the step is Reset. -/
theorem step_of_rst (hr : s.pins.rst = true) : step s = .next s.resetBlock.tick := by
  simp [step, blockStep, resetStep, hr]

/-- In TRANSMITTING the step is Sequence. -/
theorem step_of_transmitting (hr : s.pins.rst = false) (hd : s.dstate = .transmitting) :
    step s = sequenceStep s := by
  simp [step, blockStep, hr, hd]

/-- In IDLE with a full buffer and resp_ready the step is Take. -/
theorem step_of_respReady (hr : s.pins.rst = false) (hd : s.dstate = .idle) (hy : s.pins.respReady = true)
    {r : RespWord} (hp : s.resp = some r) : step s = takeStep r s := by
  simp [step, blockStep, hr, hd, hp, hy]

end StepChoice

section LastEvent

variable {s : State}

/-- Issuing an event does not move `upc`. -/
@[simp] theorem State.emit_atLastEvent (e : Event) : (s.emit e).atLastEvent = s.atLastEvent := rfl

/-- The session's last event is the one before its length (44_dispatcher R192). -/
theorem State.atLastEvent_of_eq (hl : s.upc + 1 = s.sess.length) : s.atLastEvent = true := by
  simp [State.atLastEvent, hl]

/-- Another event is not the session's last. -/
theorem State.not_atLastEvent_of_ne (hl : s.upc + 1 ≠ s.sess.length) : s.atLastEvent = false := by
  simp [State.atLastEvent, hl]

end LastEvent

end Sys2Proof.Machine
end

section
/-! ## The events of a session and the line they drive (42_transmitter R140, R141, 43_repeat R160) -/

namespace Sys2Proof.Machine

section Events

variable {b : Build} {code : Code} {n : Nat} {paused : Bool} {e : Event}

/-- The data pulses last one of the times of 41_encoder R120. -/
theorem dataPulses_duration {p : Pulse} (h : p ∈ dataPulses code n) : p.duration ∈ holdValues := by
  induction n with
  | zero => cases h
  | succ i ih =>
    obtain rfl | rfl | h := by simpa [dataPulses] using h
    · simp [holdValues] -- the mark
    · cases hb : code.getLsbD i <;> simp [bitSpace, holdValues] -- the space
    · exact ih h

/-- Every pulse of a frame lasts one of the times of 41_encoder R120. -/
theorem necEncode_duration {p : Pulse} (h : p ∈ necEncode code) : p.duration ∈ holdValues := by
  obtain rfl | rfl | h | rfl := by simpa [necEncode, headerPulses] using h
  · simp [holdValues]
  · simp [holdValues]
  · exact dataPulses_duration h
  · simp [trailerPulse, holdValues]

/-- Each of the encoder's times fits the operand of HOLD_US (30_encoding R83). -/
theorem holdWellFormed_of_mem_holdValues : ∀ d ∈ holdValues, holdWellFormed (BitVec.ofNat 30 d) = true := by decide

/-- A frame is made of SETs and of well-formed holds. -/
theorem mem_frameEvents_cases (h : e ∈ frameEvents code) :
    (∃ l, e = .set l) ∨ ∃ d, holdWellFormed d = true ∧ e = .holdUs d := by
  obtain ⟨p, hp, rfl | rfl⟩ | rfl := by simpa [frameEvents, pulseEvents] using h
  · exact .inl ⟨_, rfl⟩
  · exact .inr ⟨_, holdWellFormed_of_mem_holdValues _ (necEncode_duration hp), rfl⟩
  · exact .inl ⟨_, rfl⟩

/-- A gap holds at most the build's pause. -/
theorem eq_pauseMs_of_mem_gap {r : Nat} (h : e ∈ gap b r n paused) : e = .pauseMs b.pauseMs := by
  unfold gap at h
  split at h
  · simpa using h
  · cases h

/-- No event of a session is reserved, and none is a CFG (30_encoding R86). -/
theorem legal_and_ne_cfg_of_mem_session (h : e ∈ session b code n paused) : e.legal b ∧ ∀ ok, e ≠ .cfg ok := by
  obtain ⟨r, _, h⟩ := List.mem_flatMap.mp h
  obtain h | h := List.mem_append.mp h
  · obtain ⟨l, rfl⟩ | ⟨d, hd, rfl⟩ := mem_frameEvents_cases h
    · exact ⟨rfl, by simp⟩
    · exact ⟨hd, by simp⟩
  · obtain rfl := eq_pauseMs_of_mem_gap h
    exact ⟨beq_self_eq_true b.pauseMs, by simp⟩

/-- A session of at least one frame has an event. -/
theorem session_length_pos (hn : 1 ≤ n) : 0 < (session b code n paused).length := by
  have hm : Event.set .low ∈ session b code n paused :=
    List.mem_flatMap.mpr ⟨0, List.mem_range.mpr hn, by simp [frameEvents]⟩
  exact List.length_pos_of_mem hm

end Events

section Line

variable {line : Line}

@[simp] theorem lineAfter_append (es fs : List Event) :
    lineAfter line (es ++ fs) = lineAfter (lineAfter line es) fs := List.foldl_append

@[simp] theorem lineAfter_singleton (e : Event) : lineAfter line [e] = e.drive line := rfl

/-- A frame leaves the line LOW, whatever it was (42_transmitter R143). -/
@[simp] theorem lineAfter_frameEvents (code : Code) : lineAfter line (frameEvents code) = .low := by
  simp [frameEvents, Event.drive, lineOfLevel]

/-- A gap leaves the line (43_repeat R163). -/
@[simp] theorem lineAfter_gap (b : Build) (r n : Nat) (paused : Bool) : lineAfter line (gap b r n paused) = line := by
  unfold gap
  split <;> rfl

/-- A list each of whose parts brings the line back to where it was brings it back. -/
theorem lineAfter_flatMap {f : Nat → List Event} (hf : ∀ r, lineAfter line (f r) = line) (rs : List Nat) :
    lineAfter line (rs.flatMap f) = line := by
  induction rs with
  | nil => rfl
  | cons r rs ih => simp [hf, ih]

/-- A session begun with the line LOW ends with it LOW (42_transmitter R143). -/
theorem lineAfter_session (b : Build) (code : Code) (n : Nat) (paused : Bool) :
    lineAfter .low (session b code n paused) = .low :=
  lineAfter_flatMap (by simp) _

/-- Only CFG releases the line (10_state R27). -/
theorem Event.drive_ne_undriven {e : Event} (he : ∀ ok, e ≠ .cfg ok) (hl : line ≠ .undriven) :
    e.drive line ≠ .undriven := by
  cases e with
  | set l => cases l <;> simp [Event.drive, lineOfLevel]
  | holdUs d => exact hl
  | pauseMs d => exact hl
  | cfg ok => exact absurd rfl (he ok)

/-- A driven line stays driven where no CFG is issued (10_state R27). -/
theorem lineAfter_ne_undriven {es : List Event} (hes : ∀ e ∈ es, ∀ ok, e ≠ .cfg ok) (hl : line ≠ .undriven) :
    lineAfter line es ≠ .undriven := by
  induction es generalizing line with
  | nil => exact hl
  | cons e es ih =>
    obtain ⟨he, hes⟩ := List.forall_mem_cons.mp hes
    exact ih hes (Event.drive_ne_undriven he hl)

end Line

/-- A session a send built is one of at least one frame (43_repeat R161). -/
theorem SessionOf.exists_session {b : Build} {rom : Vector Code Config.nCmd} {es : List Event}
    (h : SessionOf b rom es) (hb : 1 ≤ b.repeatCount) :
    ∃ code n paused, 1 ≤ n ∧ es = session b code n paused := by
  obtain ⟨i, rfl⟩ | ⟨code, rfl⟩ := h
  · exact ⟨rom[i], b.repeatCount, true, hb, rfl⟩
  · exact ⟨code, 1, false, le_rfl, rfl⟩

/-- No response of an error has the reserved status (30_encoding R76). -/
theorem ErrorKind.status_ne_reserved (e : ErrorKind) : e.status ≠ statusReserved := by
  cases e <;> decide

/-- A trace stays legal when a legal event is added. -/
theorem TraceLegal.append {b : Build} {trace : List Event} (h : TraceLegal b trace) {e : Event} (he : e.legal b) :
    TraceLegal b (trace ++ [e]) :=
  List.forall_mem_append.mpr ⟨h, List.forall_mem_singleton.mpr he⟩

end Sys2Proof.Machine
end

section
/-! ## The invariant (10_state R37)

What it asks of an idle and of a transmitting state, then one rule per operation of a step: each keeps it. -/

namespace Sys2Proof.Machine

namespace State.Inv

variable {s : State}

/-- What the invariant asks of an idle state. -/
theorem of_idle (hd : s.dstate = .idle) (hc : s.cfg = false ↔ s.pin = .undriven)
    (hl : s.cfg = true → s.pin = .low) (hu : s.upc = 0) (hr : ∀ r, s.resp = some r → ResponseLegal r)
    (ht : TraceLegal s.build s.trace) (hb : 1 ≤ s.build.repeatCount) : s.Inv := by
  constructor <;> simp_all

/-- What the invariant asks of a transmitting state: that the line is driven follows, no session event releasing it. -/
theorem of_transmitting (hd : s.dstate = .transmitting) (hc : s.cfg = true) (hr : s.resp = none)
    (hu : s.upc < s.sess.length) (hs : SessionOf s.build s.rom s.sess)
    (hl : s.pin = lineAfter .low (s.sess.take s.upc)) (ht : TraceLegal s.build s.trace)
    (hb : 1 ≤ s.build.repeatCount) : s.Inv := by
  have hdriven : s.pin ≠ .undriven := by
    obtain ⟨code, n, paused, _, hes⟩ := hs.exists_session hb
    rw [hl]
    refine lineAfter_ne_undriven (fun e he => ?_) (by decide)
    exact (legal_and_ne_cfg_of_mem_session (hes ▸ List.mem_of_mem_take he)).2
  constructor <;> simp_all

/-- The invariant does not speak of the Host's pins. -/
protected theorem tick (h : s.Inv) : s.tick.Inv :=
  ⟨h.undriven_iff, h.idle_low, h.transmitting_configured, h.idle_upc, h.upc_in_session, h.session_built,
    h.line_follows, h.response_legal, h.trace_legal, h.repeats⟩

/-- The invariant does not speak of the Host's requests. -/
protected theorem dropRequest (h : s.Inv) : s.dropRequest.Inv :=
  ⟨h.undriven_iff, h.idle_low, h.transmitting_configured, h.idle_upc, h.upc_in_session, h.session_built,
    h.line_follows, h.response_legal, h.trace_legal, h.repeats⟩

/-- Reset (70_reset R250). -/
protected theorem resetBlock (h : s.Inv) : s.resetBlock.Inv :=
  of_idle rfl (by simp) (by simp) rfl (by simp) h.trace_legal h.repeats

/-- Take (44_dispatcher R195). -/
protected theorem takeResponse (h : s.Inv) (hd : s.dstate = .idle) (r : RespWord) : (s.takeResponse r).Inv :=
  of_idle hd h.undriven_iff (h.idle_low hd) (h.idle_upc hd) (by simp) h.trace_legal h.repeats

/-- A response of a status that is not reserved (30_encoding R76). -/
protected theorem respond (h : s.Inv) (hd : s.dstate = .idle) {st : BitVec 2} (hst : st ≠ statusReserved)
    (data : Code) : (s.respond st data).Inv :=
  of_idle hd h.undriven_iff (h.idle_low hd) (h.idle_upc hd) (by simp [hst]) h.trace_legal h.repeats

/-- INIT, for either outcome (44_dispatcher R182). -/
protected theorem configured (h : s.Inv) (hd : s.dstate = .idle) (ok : Bool) :
    (((s.countDraw).emit (.cfg ok)).configured ok).Inv := by
  have ht : TraceLegal s.build (s.trace ++ [.cfg ok]) := h.trace_legal.append rfl
  refine of_idle (by simp [hd]) ?_ ?_ (by simp [h.idle_upc hd]) ?_ (by simpa using ht) (by simpa using h.repeats)
  · cases ok <;> simp
  · cases ok <;> simp
  · cases ok
    · simp [ErrorKind.initFailure.status_ne_reserved]
    · simp [statusSuccess, statusReserved]

/-- The start of a session a send built (44_dispatcher R184, R186). -/
protected theorem startSession (h : s.Inv) (hd : s.dstate = .idle) (hc : s.cfg = true) (hr : s.resp = none)
    {es : List Event} (hes : SessionOf s.build s.rom es) : (s.startSession es).Inv := by
  have hpos : 0 < es.length := by
    obtain ⟨code, n, paused, hn, rfl⟩ := hes.exists_session h.repeats
    exact session_length_pos hn
  exact of_transmitting rfl hc hr hpos hes (h.idle_low hd hc) h.trace_legal h.repeats

/-- The session's event at `upc`, and the advance after it (44_dispatcher R192, R194): the line is where the session's
events up to and with it drive it, so that the last one leaves it LOW. -/
protected theorem sequence (h : s.Inv) (hd : s.dstate = .transmitting) {e : Event} (he : s.sess[s.upc]? = some e) :
    (s.emit e).advance.Inv := by
  obtain ⟨hc, hr⟩ := h.transmitting_configured hd
  obtain ⟨code, n, paused, _, hes⟩ := (h.session_built hd).exists_session h.repeats
  have ht : TraceLegal s.build (s.trace ++ [e]) :=
    h.trace_legal.append (legal_and_ne_cfg_of_mem_session (hes ▸ List.mem_of_getElem? he)).1
  have hline : e.drive s.pin = lineAfter .low (s.sess.take (s.upc + 1)) := by
    rw [List.take_add_one, he, lineAfter_append, ← h.line_follows hd, Option.toList_some, lineAfter_singleton]
  by_cases hl : s.upc + 1 = s.sess.length
  · -- the session ends
    have hend := atLastEvent_of_eq hl
    have hlow : e.drive s.pin = .low := by
      rw [hline, hl, List.take_length, hes, lineAfter_session]
    exact of_idle (by simp [hend]) (by simp [hc, hlow]) (by simp [hlow]) (by simp [hend])
      (by simp [hend, statusSuccess, statusReserved]) ht h.repeats
  · -- the session goes on
    have hmore := not_atLastEvent_of_ne hl
    have hnext : s.upc + 1 < s.sess.length := lt_of_le_of_ne (h.upc_in_session hd) hl
    exact of_transmitting (by simp [hmore, hd]) hc (by simp [hmore, hr]) (by simp [hmore, hnext])
      (h.session_built hd) (by simp [hmore, hline]) ht h.repeats

/-- A request performed in IDLE with an empty buffer (44_dispatcher R180). -/
protected theorem exec_decodeReq (h : s.Inv) (hd : s.dstate = .idle) (hr : s.resp = none) {w : ReqWord} {u : State}
    (hu : exec (decodeReq w) s = .next u) : u.Inv := by
  obtain ⟨e, rfl⟩ | ⟨index, hi, _, hc, rfl⟩ | ⟨code, _, hc, rfl⟩ | ⟨_, _, rfl⟩ | ⟨_, _, rfl⟩ :=
    exec_decodeReq_cases hu
  · exact h.respond hd e.status_ne_reserved 0 -- an error
  · exact h.startSession hd hc hr (.inl ⟨⟨indexOperand index, hi⟩, rfl⟩) -- SEND_CMD
  · exact h.startSession hd hc hr (.inr ⟨code, rfl⟩) -- SEND_RAW
  · exact h.respond hd (by decide) _ -- LEARN
  · exact h.configured hd _ -- INIT

end State.Inv

/-- Settles O34: each of the five steps is made of operations that keep the invariant. -/
theorem stepKeepsInv : Obligations.StepKeepsInv := by
  intro s t h hst
  obtain ⟨_, rfl⟩ | ⟨_, hd, e, he, rfl⟩ | ⟨_, hd, _, r, _, _, rfl⟩ | ⟨_, _, _, rfl⟩ |
    ⟨_, hd, hp, w, rest, u, _, hu, rfl⟩ := step_next_cases hst
  · exact h.resetBlock.tick -- Reset
  · exact (h.sequence hd he).tick -- Sequence
  · exact (h.takeResponse hd r).tick -- Take
  · exact h.tick -- waiting
  · exact (h.exec_decodeReq hd hp hu).dropRequest.tick -- Accept

/-- Settles O33: the reset state is idle, unconfigured and UNDRIVEN, and has neither answered nor issued anything. -/
theorem invHoldsAtReset : Obligations.InvHoldsAtReset :=
  State.Inv.of_idle rfl (by decide) (by decide) rfl (by simp [State.reset]) (by simp [TraceLegal, State.reset])
    (by decide)

end Sys2Proof.Machine
end

section
/-! ## The dispatcher, its port and its state after reset (10_state R22, R23, R32, R36) -/

namespace Sys2Proof.Machine

/-- Settles O27: Sequence, Take and waiting leave `cfg`, and of the requests only INIT writes it, with the outcome it
records. -/
theorem onlyInitOrResetWritesConfigured : Obligations.OnlyInitOrResetWritesConfigured := by
  intro s t h hne
  obtain ⟨hr, _⟩ | ⟨_, _, e, _, rfl⟩ | ⟨_, _, _, r, _, _, rfl⟩ | ⟨_, _, _, rfl⟩ |
    ⟨_, hd, hp, w, rest, u, hq, hu, rfl⟩ := step_next_cases h
  · exact .inl hr -- Reset
  · exact absurd rfl hne -- Sequence
  · exact absurd rfl hne -- Take
  · exact absurd rfl hne -- waiting
  · -- Accept
    obtain ⟨_, rfl⟩ | ⟨_, _, _, _, rfl⟩ | ⟨_, _, _, rfl⟩ | ⟨_, _, rfl⟩ | ⟨arg, rfl, rfl⟩ := exec_decodeReq_cases hu
    · exact absurd rfl hne
    · exact absurd rfl hne
    · exact absurd rfl hne
    · exact absurd rfl hne
    · exact .inr ⟨hd, hp, by simp, arg, rest, hq⟩

/-- Settles O30: a session is left by Sequence alone, and entered by an accepted send alone. -/
theorem dispatcherTransitions : Obligations.DispatcherTransitions := by
  intro s t h hr
  obtain ⟨hr', _⟩ | ⟨_, hd, e, he, rfl⟩ | ⟨_, hd, _, r, hp, _, rfl⟩ | ⟨_, hd, hw, rfl⟩ |
    ⟨_, hd, hp, w, rest, u, hq, hu, rfl⟩ := step_next_cases h
  · simp [hr] at hr' -- Reset
  · -- Sequence
    obtain ⟨hin, _⟩ := List.getElem?_eq_some_iff.mp he
    by_cases hl : s.upc + 1 = s.sess.length
    · simp [hd, State.atLastEvent_of_eq hl, hl, respWord, statusSuccess]
    · have hnext : s.upc + 1 < s.sess.length := lt_of_le_of_ne hin hl
      simp [hd, State.not_atLastEvent_of_ne hl, hnext]
  · simp [hd, hp] -- Take
  · -- waiting
    obtain ⟨r, hp, _⟩ | ⟨_, hq⟩ := hw
    · simp [hd, hp]
    · simp [hd, hq]
  · -- Accept
    obtain ⟨_, rfl⟩ | ⟨index, hi, rfl, hc, rfl⟩ | ⟨code, rfl, hc, rfl⟩ | ⟨_, _, rfl⟩ | ⟨_, _, rfl⟩ :=
      exec_decodeReq_cases hu
    · simp [hd] -- an error
    · simpa [hd, hc, hp, hq] using Or.inl ⟨index, rfl, hi⟩ -- SEND_CMD
    · simp [hd, hc, hp, hq] -- SEND_RAW
    · simp [hd] -- LEARN
    · simp [hd] -- INIT

/-- The Block is ready for a request exactly in IDLE with an empty buffer (10_state R32). -/
theorem State.reqReady_iff (s : State) : s.reqReady = true ↔ s.dstate = .idle ∧ s.resp = none := by
  simp [State.reqReady]

/-- Settles O31: Accept, the one step of a ready Block that is presented a request, drops the first; the others drop
none. -/
theorem requestHeldUntilReady : Obligations.RequestHeldUntilReady := by
  intro s
  refine ⟨s.reqReady_iff, by cases hd : s.dstate <;> simp [State.busy, State.reqReady, hd], fun t h => ?_⟩
  obtain ⟨hr, rfl⟩ | ⟨hr, hd, e, _, rfl⟩ | ⟨hr, hd, _, r, hp, _, rfl⟩ | ⟨hr, hd, hw, rfl⟩ |
    ⟨hr, hd, hp, w, rest, u, hq, hu, rfl⟩ := step_next_cases h
  · simp [hr] -- Reset
  · simp [hd, State.reqReady] -- Sequence
  · simp [hp, State.reqReady] -- Take
  · -- waiting
    obtain ⟨r, hp, _⟩ | ⟨_, hq⟩ := hw
    · simp [hp, State.reqReady]
    · simp [hq]
  · simp [hr, s.reqReady_iff.mpr ⟨hd, hp⟩, exec_requests hu] -- Accept

/-- The registry's entries from 1 on are the OPEN codes (20_memory R50). -/
theorem registry_of_pos (i : Fin Config.nCmd) (hi : 1 ≤ i.val) : Config.registry[i] = Config.registryCode i.val := by
  match i, hi with
  | ⟨1, _⟩, _ | ⟨2, _⟩, _ | ⟨3, _⟩, _ | ⟨4, _⟩, _ | ⟨5, _⟩, _ | ⟨6, _⟩, _ | ⟨7, _⟩, _ | ⟨8, _⟩, _ | ⟨9, _⟩, _ => rfl

/-- Settles O9: the values stand in `State.reset`, and a step with rst asserted is Reset, which keeps the trace. -/
theorem powerOnResetValues : Obligations.PowerOnResetValues := by
  refine ⟨rfl, rfl, rfl, rfl, rfl, registry_of_pos, rfl, rfl, rfl, rfl, rfl, fun s t hr h => ?_⟩
  obtain rfl : s.resetBlock.tick = t := Host.Outcome.next.inj ((step_of_rst hr).symm.trans h)
  simp

/-- Settles O16: Sequence finds no event from the session's length on, and Take refuses a reserved status. -/
theorem unreachableStatesFault : Obligations.UnreachableStatesFault := by
  constructor
  · intro s hr hd hu
    have hnone : s.sessionEvent = none := by rw [s.sessionEvent_transmitting hd, List.getElem?_eq_none hu]
    rw [step_of_transmitting hr hd, sequenceStep, hnone]
  · intro s r hr hd hy hp hs
    rw [step_of_respReady hr hd hy hp, takeStep]
    exact if_pos hs

/-- Settles O22: each event's instruction emits the event, which drives the line as 10_state R27 says. -/
theorem eventResults : Obligations.EventResults := by
  refine ⟨fun l s => ?_, fun d s => exec_toInstr (.holdUs d) s, fun d s => exec_toInstr (.pauseMs d) s,
    fun ok s => exec_toInstr (.cfg ok) s, by decide, by decide⟩
  cases l with
  | low => exact exec_toInstr (.set .low) s
  | high => exact exec_toInstr (.set .high) s

end Sys2Proof.Machine
end

section
/-! ## The words of instructions and of responses (30_encoding)

A word read by its number, the inverse of each decoder, and the statements of the encoding. -/

namespace Sys2Proof.Machine

section WordNumbers

variable {m n : Nat}

/-- The number of a word put together from two parts. -/
theorem toNat_append_eq_add (x : BitVec m) (y : BitVec n) : (x ++ y).toNat = x.toNat * 2 ^ n + y.toNat := by
  rw [BitVec.toNat_append, ← Nat.shiftLeft_add_eq_or_of_lt y.isLt, Nat.shiftLeft_eq]

/-- A word is its high part, read as a quotient, and its low part, read as a remainder. -/
theorem eq_append_of_div {w : BitVec (m + n)} {x : BitVec m} (h : w.toNat / 2 ^ n = x.toNat) :
    w = x ++ BitVec.ofNat n (w.toNat % 2 ^ n) := by
  apply BitVec.eq_of_toNat_eq
  rw [toNat_append_eq_add, ← h, BitVec.toNat_ofNat, Nat.mod_mod, Nat.div_add_mod']

end WordNumbers

/-- A request word by its number (30_encoding R70). -/
theorem eq_reqWord_of_div {w : ReqWord} {op : BitVec 4} (h : w.toNat / 2 ^ 32 = op.toNat) :
    w = reqWord op (BitVec.ofNat 32 (w.toNat % 2 ^ 32)) :=
  eq_append_of_div (m := 4) (n := 32) h

/-- An event word by its number (30_encoding R80). -/
theorem eq_evtWord_of_div {w : EvtWord} {kind : BitVec 2} (h : w.toNat / 2 ^ 30 = kind.toNat) :
    w = evtWord kind (BitVec.ofNat 30 (w.toNat % 2 ^ 30)) :=
  eq_append_of_div (m := 2) (n := 30) h

/-- An event word is its KIND and its VAL (30_encoding R80). -/
theorem evtWord_valField {w : EvtWord} {kind : BitVec 2} (h : kindField w = kind) : evtWord kind (valField w) = w :=
  h ▸ evtWord_fields w

section Operands

variable {v : Val}

/-- A `VAL` read as a level is that level's (30_encoding R82). -/
theorem valOfLevel_of_levelOfVal {l : Level} (h : levelOfVal v = some l) : valOfLevel l = v := by
  unfold levelOfVal at h
  split_ifs at h with h0 h1 <;> cases h
  · exact h0.symm
  · exact h1.symm

/-- A `VAL` read as an outcome is that outcome's (30_encoding R85). -/
theorem valOfOutcome_of_outcomeOfVal {ok : Bool} (h : outcomeOfVal v = some ok) : valOfOutcome ok = v := by
  unfold outcomeOfVal at h
  split_ifs at h with h0 h1 <;> cases h
  · exact h0.symm
  · exact h1.symm

/-- A `VAL` with a bit of 29:1 set is neither 0 nor 1. -/
theorem val_ne_of_two_le (h : 2 ≤ v.toNat) : v ≠ 0#30 ∧ v ≠ 1#30 := by
  constructor <;> rintro rfl <;> simp at h

/-- A `VAL` with a bit of 29:1 set is no level (30_encoding R82, R86). -/
theorem levelOfVal_of_two_le (h : 2 ≤ v.toNat) : levelOfVal v = none := by
  obtain ⟨h0, h1⟩ := val_ne_of_two_le h
  simp [levelOfVal, h0, h1]

/-- A `VAL` with a bit of 29:1 set is no outcome (30_encoding R85, R86). -/
theorem outcomeOfVal_of_two_le (h : 2 ≤ v.toNat) : outcomeOfVal v = none := by
  obtain ⟨h0, h1⟩ := val_ne_of_two_le h
  simp [outcomeOfVal, h0, h1]

end Operands

/-- An event's word decodes to the instruction that performs it (30_encoding R82 to R85). -/
theorem decodeEvt_word (e : Event) : decodeEvt e.word = .ok e.toInstr := by
  cases e <;> simp [decodeEvt, Event.word, Event.toInstr]

/-- An event word that decodes is the word of an event, and decodes to the instruction that performs it
(30_encoding R80 to R85). -/
theorem exists_event_of_decodeEvt {w : EvtWord} {i : Instr} (h : decodeEvt w = .ok i) :
    ∃ e : Event, i = e.toInstr ∧ w = e.word := by
  unfold decodeEvt at h
  split at h
  case h_1 hk => -- SET
    split at h
    next l hl =>
      obtain rfl := Except.ok.inj h
      exact ⟨.set l, rfl, by rw [Event.word, valOfLevel_of_levelOfVal hl]; exact (evtWord_valField hk).symm⟩
    next => cases h
  case h_2 hk => -- HOLD_US
    obtain rfl := Except.ok.inj h
    exact ⟨.holdUs (valField w), rfl, (evtWord_valField hk).symm⟩
  case h_3 hk => -- PAUSE_MS
    obtain rfl := Except.ok.inj h
    exact ⟨.pauseMs (valField w), rfl, (evtWord_valField hk).symm⟩
  case h_4 h0 h1 h2 => -- CFG, the one kind left
    have hk : kindField w = 3 := by
      generalize kindField w = kind at *
      revert kind
      decide
    split at h
    next ok hok =>
      obtain rfl := Except.ok.inj h
      exact ⟨.cfg ok, rfl, by rw [Event.word, valOfOutcome_of_outcomeOfVal hok, evtWord_valField hk]⟩
    next => cases h

/-- No instruction is lost by encoding (30_encoding R71, R82 to R85). -/
theorem decode_encode (i : Instr) : decode (encode i) = .ok i := by
  cases i with
  | set l => exact decodeEvt_word (.set l)
  | holdUs d => exact decodeEvt_word (.holdUs d)
  | pauseMs d => exact decodeEvt_word (.pauseMs d)
  | cfg ok => exact decodeEvt_word (.cfg ok)
  | _ arg => simp [encode, decode, decodeReq] -- a request

/-- Settles O1: an event is decoded from its KIND and VAL, a request from its OP and ARG. -/
theorem decodeInvertsEncode : Obligations.DecodeInvertsEncode := decode_encode

/-- Settles O2: a request word is the one of its OP and ARG, an event word that decodes is an event's. -/
theorem encodeInvertsDecode : Obligations.EncodeInvertsDecode := by
  intro f i h
  cases f with
  | req w =>
    obtain rfl := Except.ok.inj h
    exact encode_decodeReq w
  | evt w =>
    obtain ⟨e, rfl, rfl⟩ := exists_event_of_decodeEvt h
    exact encode_toInstr e

/-- The word of a request instruction decodes to it. -/
theorem decodeReq_of_encode {w : ReqWord} {i : Instr} (h : encode i = .req w) : decodeReq w = i :=
  Except.ok.inj (h ▸ decode_encode i)

/-- A request word decodes to the instruction whose opcode its number has, with the ARG below (30_encoding R70). -/
theorem decode_req_of_div {w : ReqWord} {i : Code → Instr} (op : BitVec 4)
    (hi : ∀ arg, encode (i arg) = .req (reqWord op arg)) (h : w.toNat / 2 ^ 32 = op.toNat) :
    decode (.req w) = .ok (i (BitVec.ofNat 32 (w.toNat % 2 ^ 32))) :=
  congrArg Except.ok (decodeReq_of_encode ((hi _).trans (congrArg FetchWord.req (eq_reqWord_of_div h).symm)))

/-- Settles O4: opcode by opcode, the instruction whose encoding has that opcode. -/
theorem requestOpcodeMap : Obligations.RequestOpcodeMap := fun _ =>
  ⟨decode_req_of_div 0x1 fun _ => rfl, decode_req_of_div 0x2 fun _ => rfl, decode_req_of_div 0x3 fun _ => rfl,
   decode_req_of_div 0x4 fun _ => rfl, decode_req_of_div 0x0 fun _ => rfl, decode_req_of_div 0x5 fun _ => rfl,
   decode_req_of_div 0x6 fun _ => rfl, decode_req_of_div 0x7 fun _ => rfl, decode_req_of_div 0x8 fun _ => rfl,
   decode_req_of_div 0x9 fun _ => rfl, decode_req_of_div 0xA fun _ => rfl, decode_req_of_div 0xB fun _ => rfl,
   decode_req_of_div 0xC fun _ => rfl, decode_req_of_div 0xD fun _ => rfl, decode_req_of_div 0xE fun _ => rfl,
   decode_req_of_div 0xF fun _ => rfl⟩

/-- A SET word whose `VAL` is no level is refused (30_encoding R86; log 10). -/
theorem decodeEvt_reservedSet {v : Val} (h : 2 ≤ v.toNat) : decodeEvt (evtWord 0 v) = .error (.reservedSet v) := by
  simp [decodeEvt, levelOfVal_of_two_le h]

/-- A CFG word whose `VAL` is no outcome is refused (30_encoding R86; log 10). -/
theorem decodeEvt_reservedCfg {v : Val} (h : 2 ≤ v.toNat) : decodeEvt (evtWord 3 v) = .error (.reservedCfg v) := by
  simp [decodeEvt, outcomeOfVal_of_two_le h]

/-- Settles O5: the word is the one of its KIND and VAL, and such a VAL is neither a level nor an outcome. -/
theorem reservedEventWordsRefused : Obligations.ReservedEventWordsRefused := by
  intro w hv
  have hval : 2 ≤ (BitVec.ofNat 30 (w.toNat % 2 ^ 30)).toNat := by simpa using hv
  constructor
  · intro hk
    have hw := eq_evtWord_of_div (kind := 0) hk
    exact (congrArg decodeEvt hw).trans (decodeEvt_reservedSet hval)
  · intro hk
    have hw := eq_evtWord_of_div (kind := 3) hk
    exact (congrArg decodeEvt hw).trans (decodeEvt_reservedCfg hval)

/-- CFG is the one event whose presented word differs from the recorded one (30_encoding R85). -/
theorem presentedWord_of_ne_cfg {e : Event} (h : ∀ ok, e ≠ .cfg ok) : e.presentedWord = e.word := by
  cases e with
  | set l => rfl
  | holdUs d => rfl
  | pauseMs d => rfl
  | cfg ok => exact absurd rfl (h ok)

/-- Settles O6: KIND stands at 2^30 and VAL below it. -/
theorem eventWordValues : Obligations.EventWordValues :=
  ⟨rfl, rfl, toNat_append_eq_add 1#2, toNat_append_eq_add 2#2, rfl, rfl, fun _ => rfl,
   fun _ => presentedWord_of_ne_cfg⟩

/-- Settles O7: STATUS stands at 2^32 and DATA below it. -/
theorem responseWordFields : Obligations.ResponseWordFields :=
  ⟨fun st d => ⟨toNat_append_eq_add st d, statusField_respWord st d, dataField_respWord st d⟩, rfl, rfl, rfl⟩

/-- Settles O23: the two words decode to INIT and LEARN, whose meanings do not read the operand. -/
theorem ignoredArgumentHasNoEffect : Obligations.IgnoredArgumentHasNoEffect := by
  intro arg s
  constructor
  · rw [decodeReq_of_encode (i := .init arg) rfl, decodeReq_of_encode (w := 0x100000000) (i := .init 0) rfl]
    rfl
  · rw [decodeReq_of_encode (i := .learn arg) rfl, decodeReq_of_encode (w := 0x400000000) (i := .learn 0) rfl]
    rfl

/-- Settles O3: the decoder run on each of the fourteen words. -/
theorem writtenWordsDecode : Obligations.WrittenWordsDecode := by
  unfold Obligations.WrittenWordsDecode
  decide

/-- Settles O8: the assembler run on each line, the symbols' lines one by one. -/
theorem assemblerForms : Obligations.AssemblerForms :=
  ⟨by decide, rfl, by decide, by decide, by decide, by decide⟩

/-- The well-formed holds by their numbers (30_encoding R83). -/
theorem holdWellFormed_iff {d : Val} :
    holdWellFormed d = true ↔ d.toNat = 9000 ∨ d.toNat = 4500 ∨ d.toNat = 560 ∨ d.toNat = 1690 := by
  simp only [holdWellFormed, List.contains_iff_mem, holdValues, List.mem_cons, List.not_mem_nil, Config.tHdrMark,
    Config.tHdrSpace, Config.tBitMark, Config.tOneSpace, Config.tZeroSpace, Config.tTrlMark]
  tauto

/-- Settles O52: a hold is legal only at the encoder's four times. -/
theorem sessionEventsLegal : Obligations.SessionEventsLegal := by
  intro b code n paused e he
  obtain ⟨hlegal, hcfg⟩ := legal_and_ne_cfg_of_mem_session he
  refine ⟨hlegal, hcfg, ?_⟩
  rintro d rfl
  exact holdWellFormed_iff.mp hlegal

end Sys2Proof.Machine
end

section
/-! ## The registry and the build parameters (40_registry R101, R104; 43_repeat R162) -/

namespace Sys2Proof.Machine

/-- No instruction writes the registry or the build parameters. -/
theorem exec_rom_build {i : Instr} {s t : State} (h : exec i s = .next t) : t.rom = s.rom ∧ t.build = s.build := by
  obtain ⟨_, rfl⟩ | ⟨_, _, _, _, rfl⟩ | ⟨_, _, _, rfl⟩ | ⟨_, _, _, rfl⟩ | ⟨_, _, rfl⟩ | ⟨_, _, rfl⟩ :=
    exec_next_cases h <;> simp

/-- Settles O28: the operations of each of the five steps leave both, and so does the request Accept performs. -/
theorem registryAndBuildNeverChange : Obligations.RegistryAndBuildNeverChange := by
  intro s t h
  obtain ⟨_, rfl⟩ | ⟨_, _, _, _, rfl⟩ | ⟨_, _, _, _, _, _, rfl⟩ | ⟨_, _, _, rfl⟩ |
    ⟨_, _, _, _, _, u, _, hu, rfl⟩ := step_next_cases h
  · simp -- Reset
  · simp -- Sequence
  · simp -- Take
  · simp -- waiting
  · simpa using exec_rom_build hu -- Accept

/-- Settles O25: the bounds check decides, and POWER_ON's code is the registry's first entry. -/
theorem lookupIsTotalInRange : Obligations.LookupIsTotalInRange :=
  fun s _ => ⟨s.lookup_of_lt, fun h => s.lookup_of_ge (Nat.not_lt.mpr h), State.reset.lookup_of_lt (by decide)⟩

end Sys2Proof.Machine
end

section
/-! ## The encoder's pulses (41_encoder)

What the encoder is in the spec's numbers, the place of each bit's two pulses, and the frame's duration. -/

namespace Sys2Proof.Machine

section Encoder

variable {code : Code}

/-- The frame in the spec's times: the header, the data pulses, the trailer mark (41_encoder R120, R121, R123). -/
theorem necEncode_eq (code : Code) :
    necEncode code = ⟨.high, 9000⟩ :: ⟨.low, 4500⟩ :: (dataPulses code 32 ++ [⟨.high, 560⟩]) := rfl

/-- The two pulses of the highest bit come first (41_encoder R122). -/
theorem dataPulses_succ (code : Code) (n : Nat) :
    dataPulses code (n + 1) =
      ⟨.high, 560⟩ :: bitSpace (code.getLsbD n) :: dataPulses code n := rfl

/-- A bit has two pulses. -/
@[simp] theorem dataPulses_length (code : Code) (n : Nat) : (dataPulses code n).length = 2 * n := by
  induction n with
  | zero => rfl
  | succ n ih => simp [dataPulses_succ, ih, Nat.mul_succ]

/-- A frame has NPULSE pulses (41_encoder R124). -/
@[simp] theorem necEncode_length (code : Code) : (necEncode code).length = 67 := by
  simp [necEncode_eq]

/-- Between the header and the trailer mark stand the data pulses. -/
theorem necEncode_getElem?_add_two {p : Nat} (hp : p < 64) : (necEncode code)[p + 2]? = (dataPulses code 32)[p]? := by
  have hin : p < (dataPulses code 32).length := by simpa using hp
  rw [necEncode_eq, List.getElem?_cons_succ, List.getElem?_cons_succ, List.getElem?_append_left hin]

/-- The trailer mark follows the 66 pulses of the header and the bits (41_encoder R123). -/
theorem necEncode_getElem?_trailer (code : Code) : (necEncode code)[66]? = some ⟨.high, 560⟩ := by
  rw [necEncode_eq, List.getElem?_cons_succ, List.getElem?_cons_succ, List.getElem?_append_right (by simp)]
  simp

/-- With `k` bits above it, a bit's two pulses come after theirs. -/
theorem dataPulses_getElem?_bit (code : Code) (i k : Nat) :
    (dataPulses code (i + 1 + k))[2 * k]? = some ⟨.high, 560⟩ ∧
    (dataPulses code (i + 1 + k))[2 * k + 1]? = some (bitSpace (code.getLsbD i)) := by
  induction k with
  | zero => simp [dataPulses_succ]
  | succ k ih => simpa [← Nat.add_assoc, dataPulses_succ, Nat.mul_succ] using ih

/-- Settles O41: above bit `i` are the `31 - i` bits whose pulses come between the header and its own. -/
theorem bitPulsePositions : Obligations.BitPulsePositions := by
  intro code i hi
  obtain ⟨k, hk⟩ : ∃ k, i + 1 + k = 32 := ⟨31 - i, by omega⟩
  have hpulses := dataPulses_getElem?_bit code i k
  rw [hk] at hpulses
  rw [show 64 - 2 * i = 2 * k + 2 by omega, show 65 - 2 * i = 2 * k + 1 + 2 by omega,
    necEncode_getElem?_add_two (by omega), necEncode_getElem?_add_two (by omega)]
  exact hpulses

/-- The space of a bit tells the bit (41_encoder R122). -/
theorem eq_of_bitSpace_eq : ∀ {a b : Bool}, bitSpace a = bitSpace b → a = b := by decide

/-- Settles O42: the space of each bit, at its position, tells the bit. -/
theorem encodeInjective : Obligations.EncodeInjective := by
  intro c d h
  refine BitVec.eq_of_getLsbD_eq fun i hi => ?_
  obtain ⟨_, hc⟩ := bitPulsePositions c i hi
  obtain ⟨_, hd⟩ := bitPulsePositions d i hi
  rw [h, hd] at hc
  exact (eq_of_bitSpace_eq (Option.some.inj hc)).symm

/-- A position of a frame is one of the header's, the trailer mark's, or one of the two of a bit. -/
theorem pulse_position_cases {p : Nat} (hp : p < 67) :
    p = 0 ∨ p = 1 ∨ p = 66 ∨ ∃ i < 32, p = 64 - 2 * i ∨ p = 65 - 2 * i := by
  by_cases hdata : 2 ≤ p ∧ p < 66
  · exact .inr (.inr (.inr ⟨32 - p / 2, by omega, by omega⟩))
  · omega

/-- Settles O43: the header's pulses, each bit's and the trailer mark, with the parity of each place. -/
theorem levelsAlternate : Obligations.LevelsAlternate := by
  intro code p hp
  obtain rfl | rfl | rfl | ⟨i, hi, rfl | rfl⟩ := pulse_position_cases hp
  · exact ⟨_, rfl, rfl⟩ -- the header's mark
  · exact ⟨_, rfl, rfl⟩ -- the header's space
  · exact ⟨_, necEncode_getElem?_trailer code, rfl⟩
  · have heven : (64 - 2 * i) % 2 = 0 := by omega
    exact ⟨_, (bitPulsePositions code i hi).1, (if_pos heven).symm⟩ -- a bit's mark
  · have hodd : (65 - 2 * i) % 2 ≠ 0 := by omega
    exact ⟨_, (bitPulsePositions code i hi).2, (if_neg hodd).symm⟩ -- a bit's space

/-- Settles O39: the header and the trailer mark at their places, and SET(LOW) last of the frame's events. -/
theorem frameHeaderTrailerLength : Obligations.FrameHeaderTrailerLength := fun code =>
  ⟨necEncode_length code, rfl, rfl, necEncode_getElem?_trailer code, by simp [frameEvents]⟩

/-- The data pulses are a loop over the bits, the highest first (41_encoder R120). -/
theorem dataPulses_eq_flatMap (code : Code) (n : Nat) :
    dataPulses code n = (List.range n).flatMap fun k =>
      [⟨.high, 560⟩, bitSpace (code.getLsbD (n - 1 - k))] := by
  induction n with
  | zero => rfl
  | succ n ih =>
    simp [dataPulses_succ, ih, List.range_succ_eq_map, List.flatMap_map, Nat.sub_sub, Nat.add_comm]

/-- Settles O40: the data pulses are the loop over 32 bits. -/
theorem encodeFollowsLoop : Obligations.EncodeFollowsLoop := by
  intro code
  rw [necEncode_eq, dataPulses_eq_flatMap]
  rfl

/-- The space of a 1 is 1130 microseconds longer than that of a 0 (41_encoder R122). -/
theorem bitSpace_duration (bit : Bool) : (bitSpace bit).duration = 560 + 1130 * bit.toNat := by
  cases bit <;> rfl

/-- Each bit lasts 1120 microseconds, and 1130 more when it is 1. -/
theorem dataPulses_sum_duration (code : Code) (n : Nat) :
    ((dataPulses code n).map (·.duration)).sum = 1120 * n + 1130 * onesBelow code n := by
  induction n with
  | zero => rfl
  | succ n ih =>
    simp only [dataPulses_succ, onesBelow, List.map_cons, List.sum_cons, bitSpace_duration, ih]
    omega

/-- `onesBelow` counts the bits that are 1. -/
theorem onesBelow_eq_length_filter (code : Code) (n : Nat) :
    onesBelow code n = ((List.range n).filter fun i => code.getLsbD i).length := by
  induction n with
  | zero => rfl
  | succ n ih =>
    rw [onesBelow, ih, List.range_succ]
    cases hb : code.getLsbD n <;> simp [hb, Nat.add_comm]

/-- A code has at most 32 bits that are 1. -/
theorem popcount_le (code : Code) : popcount code ≤ 32 := by
  rw [popcount, onesBelow_eq_length_filter]
  exact (List.length_filter_le ..).trans_eq List.length_range

/-- The frame's duration (41_encoder R128): the header, the trailer mark and 32 bits. -/
theorem frameTime_eq (code : Code) : frameTime code = 49900 + 1130 * popcount code := by
  simp only [frameTime, popcount, necEncode_eq, List.map_cons, List.map_append, List.sum_cons, List.sum_append,
    dataPulses_sum_duration, List.map_nil, List.sum_nil]
  omega

/-- Settles O44: the bounds are those of a code with no bit set and of one with all 32. -/
theorem frameTimeFormula : Obligations.FrameTimeFormula := by
  intro code
  have htime := frameTime_eq code
  have hones := popcount_le code
  exact ⟨htime, onesBelow_eq_length_filter code 32, by omega, by omega⟩

end Encoder

end Sys2Proof.Machine
end

section
/-! ## A frame's events, its edges, and the SETs of a session (42_transmitter R140, R141, R146)

A frame is a header, 32 bits and a trailer; from a LOW line each of them raises the line once and lowers it once. The
data pulses are taken through an induction over the bits, a session through one over its frames. -/

namespace Sys2Proof.Machine

section PulseEvents

variable {ps : List Pulse} {code : Code}

/-- Each pulse has two events (42_transmitter R140). -/
@[simp] theorem pulseEvents_length (p : Pulse) : (pulseEvents p).length = 2 := rfl

/-- The two events of the pulse at a place stand at twice the place and after it (42_transmitter R140). -/
theorem flatMap_pulseEvents_getElem? {p : Nat} {q : Pulse} (h : ps[p]? = some q) :
    (ps.flatMap pulseEvents)[2 * p]? = some (.set q.level) ∧
    (ps.flatMap pulseEvents)[2 * p + 1]? = some (.holdUs (BitVec.ofNat 30 q.duration)) := by
  induction ps generalizing p with
  | nil => cases h
  | cons q' ps ih =>
    cases p with
    | zero =>
      obtain rfl : q' = q := by simpa using h
      exact ⟨rfl, rfl⟩
    | succ p => exact ih h

/-- The events of a frame's pulses come first (42_transmitter R140). -/
theorem frameEvents_getElem?_of_lt {k : Nat} (hk : k < 134) :
    (frameEvents code)[k]? = ((necEncode code).flatMap pulseEvents)[k]? := by
  rw [frameEvents, List.getElem?_append_left (by simpa using hk)]

/-- A frame has 135 events (42_transmitter R140). -/
@[simp] theorem frameEvents_length (code : Code) : (frameEvents code).length = 135 := by
  simp [frameEvents]

/-- SET(LOW) follows the events of the pulses (42_transmitter R143). -/
theorem frameEvents_getElem?_last (code : Code) : (frameEvents code)[134]? = some (.set .low) := by
  rw [frameEvents, List.getElem?_append_right (by simp)]
  simp

/-- Each of the encoder's times is kept by the operand of HOLD_US (30_encoding R83). -/
theorem toNat_ofNat_of_mem_holdValues : ∀ d ∈ holdValues, (BitVec.ofNat 30 d).toNat = d := by decide

/-- Settles O45: the events of pulse `p` stand at `2 * p` and `2 * p + 1`, and its duration fits the hold's operand. -/
theorem frameEventElements : Obligations.FrameEventElements := by
  refine fun code => ⟨frameEvents_length code, frameEvents_getElem?_last code, fun p hp => ?_⟩
  obtain ⟨q, hq⟩ : ∃ q, (necEncode code)[p]? = some q := ⟨_, List.getElem?_eq_getElem (by simpa using hp)⟩
  obtain ⟨hset, hhold⟩ := flatMap_pulseEvents_getElem? hq
  rw [← frameEvents_getElem?_of_lt (by omega)] at hset hhold
  exact ⟨q, hq, hset, _, hhold, toNat_ofNat_of_mem_holdValues _ (necEncode_duration (List.mem_of_getElem? hq))⟩

/-- The data events: a mark and a space of each bit, the highest bit first (41_encoder R122). -/
theorem flatMap_pulseEvents_dataPulses_succ (code : Code) (n : Nat) :
    (dataPulses code (n + 1)).flatMap pulseEvents =
      pulseEvents ⟨.high, 560⟩ ++ (pulseEvents (bitSpace (code.getLsbD n)) ++
        (dataPulses code n).flatMap pulseEvents) := rfl

/-- A frame's events: the header's, the bits', the trailer mark's, and the end (42_transmitter R140). -/
theorem frameEvents_eq (code : Code) :
    frameEvents code = pulseEvents ⟨.high, 9000⟩ ++ (pulseEvents ⟨.low, 4500⟩ ++
      ((dataPulses code 32).flatMap pulseEvents ++ (pulseEvents ⟨.high, 560⟩ ++ [.set .low]))) := by
  simp [frameEvents, necEncode_eq]

/-- A pulse leaves the line at its level (42_transmitter R141). -/
@[simp] theorem lineAfter_pulseEvents (line : Line) (p : Pulse) :
    lineAfter line (pulseEvents p) = lineOfLevel p.level := rfl

/-- The space of a bit is LOW (41_encoder R122). -/
@[simp] theorem bitSpace_level (bit : Bool) : (bitSpace bit).level = .low := rfl

/-- The data pulses begun with the line LOW end with it LOW. -/
@[simp] theorem lineAfter_dataPulses (code : Code) (n : Nat) :
    lineAfter .low ((dataPulses code n).flatMap pulseEvents) = .low := by
  induction n with
  | zero => rfl
  | succ n ih => simpa [flatMap_pulseEvents_dataPulses_succ, lineOfLevel] using ih

end PulseEvents

section Edges

variable {level : Level} {line : Line}

/-- The edges of a list are those of its first part, and those of the rest from where the first leaves the line. -/
@[simp] theorem edgesTo_append (es fs : List Event) :
    edgesTo level line (es ++ fs) = edgesTo level line es + edgesTo level (lineAfter line es) fs := by
  induction es generalizing line with
  | nil => exact (Nat.zero_add _).symm
  | cons e es ih =>
    rw [List.cons_append, edgesTo, edgesTo, ih, Nat.add_assoc]
    rfl

/-- A pulse is an edge to its own level, unless the line is there already (42_transmitter R141). -/
@[simp] theorem edgesTo_pulseEvents (p : Pulse) :
    edgesTo level line (pulseEvents p) = if p.level = level ∧ line ≠ lineOfLevel level then 1 else 0 := by
  cases level <;> cases hp : p.level <;> simp [pulseEvents, edgesTo, Event.drive, lineOfLevel, hp]

/-- From a LOW line each bit raises the line once and lowers it once. -/
@[simp] theorem edgesTo_dataPulses (level : Level) (code : Code) (n : Nat) :
    edgesTo level .low ((dataPulses code n).flatMap pulseEvents) = n := by
  induction n with
  | zero => rfl
  | succ n ih =>
    cases level <;> simp [flatMap_pulseEvents_dataPulses_succ, lineOfLevel, ih, Nat.add_comm]

/-- From a LOW line a frame raises and lowers the line once for the header, each of 32 bits, and the trailer
(42_transmitter R146). -/
theorem edgesTo_frameEvents (level : Level) (code : Code) : edgesTo level .low (frameEvents code) = 34 := by
  cases level <;> simp [frameEvents_eq, edgesTo, Event.drive, lineOfLevel]

end Edges

/-- Settles O46: one edge each way for the header, for each of the 32 bits, and for the trailer mark with the end. -/
theorem frameEdges : Obligations.FrameEdges := fun code =>
  ⟨edgesTo_frameEvents .high code, edgesTo_frameEvents .low code, lineAfter_frameEvents code⟩

section SetChanges

variable {line : Line}

/-- Every SET of a list changes the level when each of its two parts has that, from where it begins. -/
@[simp] theorem everySetChanges_append {es fs : List Event} :
    EverySetChanges line (es ++ fs) ↔ EverySetChanges line es ∧ EverySetChanges (lineAfter line es) fs := by
  induction es generalizing line with
  | nil => exact (iff_of_eq (true_and _)).symm
  | cons e es ih =>
    rw [List.cons_append, EverySetChanges, EverySetChanges, ih, and_assoc]
    rfl

/-- The SET of a pulse changes the level when the line is not at the pulse's. -/
@[simp] theorem everySetChanges_pulseEvents {p : Pulse} :
    EverySetChanges line (pulseEvents p) ↔ line ≠ lineOfLevel p.level := by
  simp [pulseEvents, EverySetChanges]

/-- From a LOW line the mark of each bit finds the line LOW and its space finds it HIGH. -/
@[simp] theorem everySetChanges_dataPulses (code : Code) (n : Nat) :
    EverySetChanges .low ((dataPulses code n).flatMap pulseEvents) := by
  induction n with
  | zero => trivial
  | succ n ih => simpa [flatMap_pulseEvents_dataPulses_succ, lineOfLevel] using ih

/-- From a LOW line every SET of a frame changes the level (42_transmitter R141). -/
theorem everySetChanges_frameEvents (code : Code) : EverySetChanges .low (frameEvents code) := by
  simp [frameEvents_eq, EverySetChanges, lineOfLevel]

/-- A gap has no SET (43_repeat R160). -/
theorem everySetChanges_gap (b : Build) (r n : Nat) (paused : Bool) : EverySetChanges line (gap b r n paused) := by
  unfold gap
  split
  · simp [EverySetChanges]
  · trivial

/-- A list each of whose parts changes the level at every SET and brings the line back does so as a whole. -/
theorem everySetChanges_flatMap {f : Nat → List Event} (hf : ∀ r, EverySetChanges line (f r))
    (hline : ∀ r, lineAfter line (f r) = line) (rs : List Nat) : EverySetChanges line (rs.flatMap f) := by
  induction rs with
  | nil => trivial
  | cons r rs ih =>
    rw [List.flatMap_cons, everySetChanges_append, hline]
    exact ⟨hf r, ih⟩

end SetChanges

/-- Settles O50: every frame begins where the one before it left the line, at LOW, and a gap sets nothing. -/
theorem everySessionSetChangesLine : Obligations.EverySessionSetChangesLine := by
  refine fun b code n paused => ⟨everySetChanges_flatMap (fun r => ?_) (by simp) _, lineAfter_session b code n paused⟩
  exact everySetChanges_append.mpr ⟨everySetChanges_frameEvents code, everySetChanges_gap b r n paused⟩

end Sys2Proof.Machine
end

section
/-! ## No state of the invariant stops (44_dispatcher R190, 60_exceptions R223)

Of the instructions only LEARN can be refused, and of the steps only Sequence and Take can fault: the invariant gives
Sequence its event and Take a response of a legal status. -/

namespace Sys2Proof.Machine

/-- The coming step accepts a LEARN word: no reset, IDLE, the buffer empty, and a LEARN word presented first
(10_state R32, 44_dispatcher R190). -/
def State.AcceptsLearn (s : State) : Prop :=
  s.pins.rst = false ∧ s.dstate = .idle ∧ s.resp = none ∧ ∃ arg rest, s.requests = reqWord 4 arg :: rest

/-- Every instruction answers a next state, but LEARN in a build with LEARN_ADMITTED = false (44_dispatcher R190). -/
theorem exec_next_or_learn (i : Instr) (s : State) :
    (∃ t, exec i s = .next t) ∨ (s.build.learnAdmitted = false ∧ ∃ arg, i = .learn arg) := by
  cases i with
  | sendCmd index =>
    refine .inl ?_
    simp only [exec, execSendCmd]
    split
    · exact ⟨_, rfl⟩
    · split <;> exact ⟨_, rfl⟩
  | sendRaw code =>
    refine .inl ?_
    simp only [exec, execSendRaw]
    split <;> exact ⟨_, rfl⟩
  | learn arg =>
    cases hl : s.build.learnAdmitted with
    | true => exact .inl ⟨_, if_pos hl⟩
    | false => exact .inr ⟨rfl, arg, rfl⟩
  | _ => exact .inl ⟨_, rfl⟩

section StepChoice

variable {s : State}

/-- In IDLE with a full buffer and no resp_ready the step is waiting (log 14). -/
theorem step_of_not_respReady (hr : s.pins.rst = false) (hd : s.dstate = .idle) (hy : s.pins.respReady = false)
    {r : RespWord} (hp : s.resp = some r) : step s = .next s.tick := by
  simp [step, blockStep, waitStep, hr, hd, hp, hy]

/-- In IDLE with an empty buffer and no request the step is waiting (log 14). -/
theorem step_of_no_request (hr : s.pins.rst = false) (hd : s.dstate = .idle) (hp : s.resp = none)
    (hq : s.requests = []) : step s = .next s.tick := by
  simp [step, blockStep, waitStep, hr, hd, hp, hq]

/-- In IDLE with an empty buffer and a request presented the step is Accept. -/
theorem step_of_request (hr : s.pins.rst = false) (hd : s.dstate = .idle) (hp : s.resp = none)
    {w : ReqWord} {rest : List ReqWord} (hq : s.requests = w :: rest) : step s = acceptStep w s := by
  simp [step, blockStep, hr, hd, hp, hq]

/-- Sequence answers a next state where the session has an event at `upc`. -/
theorem sequenceStep_next (hd : s.dstate = .transmitting) (hu : s.upc < s.sess.length) :
    ∃ t, sequenceStep s = .next t := by
  have he : s.sessionEvent = some s.sess[s.upc] := by
    rw [s.sessionEvent_transmitting hd, List.getElem?_eq_getElem hu]
  exact ⟨(s.emit s.sess[s.upc]).advance.tick, by simp [sequenceStep, he, exec_toInstr]⟩

/-- Take answers a next state for a response of a legal status. -/
theorem takeStep_next {r : RespWord} (h : ResponseLegal r) : ∃ t, takeStep r s = .next t :=
  ⟨_, if_neg h⟩

/-- Accept answers a next state where the request's instruction does. -/
theorem acceptStep_next {w : ReqWord} {u : State} (h : exec (decodeReq w) s = .next u) :
    ∃ t, acceptStep w s = .next t :=
  ⟨_, by rw [acceptStep, h, thenNext_next]⟩

/-- An accepted LEARN is refused in a build with LEARN_ADMITTED = false (44_dispatcher R190). -/
theorem step_of_learn_not_admitted (hl : s.build.learnAdmitted = false) (h : s.AcceptsLearn) :
    step s = .refused .learnNotAdmitted := by
  obtain ⟨hr, hd, hp, arg, rest, hq⟩ := h
  have hdec : decodeReq (reqWord 4 arg) = .learn arg := decodeReq_of_encode rfl
  rw [step_of_request hr hd hp hq, acceptStep, hdec]
  simp [exec, execLearn, hl]

/-- A state of the invariant steps on, unless it accepts a LEARN in a build with LEARN_ADMITTED = false. -/
theorem State.Inv.step_next_or_learn (h : s.Inv) :
    (∃ t, step s = .next t) ∨ (s.build.learnAdmitted = false ∧ s.AcceptsLearn) := by
  cases hr : s.pins.rst with
  | true => exact .inl ⟨_, step_of_rst hr⟩
  | false =>
    cases hd : s.dstate with
    | transmitting =>
      rw [step_of_transmitting hr hd]
      exact .inl (sequenceStep_next hd (h.upc_in_session hd))
    | idle =>
      cases hp : s.resp with
      | some r =>
        cases hy : s.pins.respReady with
        | true =>
          rw [step_of_respReady hr hd hy hp]
          exact .inl (takeStep_next (h.response_legal r hp))
        | false => exact .inl ⟨_, step_of_not_respReady hr hd hy hp⟩
      | none =>
        cases hq : s.requests with
        | nil => exact .inl ⟨_, step_of_no_request hr hd hp hq⟩
        | cons w rest =>
          obtain ⟨u, hu⟩ | ⟨hl, arg, hi⟩ := exec_next_or_learn (decodeReq w) s
          · rw [step_of_request hr hd hp hq]
            exact .inl (acceptStep_next hu)
          · obtain rfl : w = reqWord 4 arg := FetchWord.req.inj (req_eq_encode_of_decodeReq hi)
            exact .inr ⟨hl, hr, hd, hp, arg, rest, hq⟩

end StepChoice

/-- Settles O35: the one stop left is the refusal of LEARN, and there the step is refused. -/
theorem invStatesNeverStop : Obligations.InvStatesNeverStop := by
  intro s h
  refine ⟨fun hl => ?_, fun hl => ⟨step_of_learn_not_admitted hl, fun hn => ?_⟩⟩
  · exact h.step_next_or_learn.resolve_right fun ⟨hl', _⟩ => by simp [hl] at hl'
  · exact h.step_next_or_learn.resolve_right fun ⟨_, ha⟩ => hn ha

end Sys2Proof.Machine
end

section
/-! ## A session as its slots (43_repeat R160, R164 to R167)

A slot is a frame with the gap after it. A slot that is not the last has the whole gap, so `r` whole slots stand before
frame `r`; the places of a session's events, its length and its times are read off that one equation. -/

namespace Sys2Proof.Machine

/-- The pause of a gap that is not left out: one PAUSE_MS in a paused session, none in another (43_repeat R160). -/
def fullGap (b : Build) (paused : Bool) : List Event :=
  if paused then [.pauseMs b.pauseMs] else []

/-- A frame with its whole gap (43_repeat R160). -/
def fullSlot (b : Build) (code : Code) (paused : Bool) : List Event := frameEvents code ++ fullGap b paused

/-- The pauses of a command session: one per frame, after the last one only with TRAILING_PAUSE (43_repeat R164). -/
def commandPauses (b : Build) : Nat :=
  if b.trailingPause then b.repeatCount else b.repeatCount - 1

section Slots

variable {b : Build} {code : Code} {n r : Nat} {paused : Bool}

@[simp] theorem fullGap_length (b : Build) (paused : Bool) : (fullGap b paused).length = if paused then 1 else 0 := by
  cases paused <;> rfl

@[simp] theorem fullSlot_length (b : Build) (code : Code) (paused : Bool) :
    (fullSlot b code paused).length = 135 + if paused then 1 else 0 := by
  simp [fullSlot]

/-- The gap is whole before another frame, and with TRAILING_PAUSE after the last one too. -/
theorem gap_eq_fullGap (h : r + 1 < n ∨ b.trailingPause = true) : gap b r n paused = fullGap b paused := by
  have hpause : (decide (r + 1 < n) || b.trailingPause) = true := by simpa using h
  simp [gap, fullGap, hpause]

/-- Without TRAILING_PAUSE no gap follows the last frame. -/
theorem gap_last_eq_nil (h : b.trailingPause = false) : gap b r (r + 1) paused = [] := by
  simp [gap, h]

/-- Before frame `r` stand `r` whole slots; then come the frame, its gap, and the slots of the frames left. -/
theorem session_eq_append (b : Build) (code : Code) (r k : Nat) (paused : Bool) :
    session b code (r + 1 + k) paused =
      (List.replicate r (fullSlot b code paused)).flatten ++ (frameEvents code ++ (gap b r (r + 1 + k) paused ++
        (List.range' (r + 1) k).flatMap fun i => frameEvents code ++ gap b i (r + 1 + k) paused)) := by
  have hbefore : ((List.range r).flatMap fun i => frameEvents code ++ gap b i (r + 1 + k) paused) =
      (List.replicate r (fullSlot b code paused)).flatten := by
    rw [List.flatMap_def, List.map_congr_left (g := fun _ => fullSlot b code paused), List.map_const',
      List.length_range]
    intro i hi
    have hlt : i < r := List.mem_range.mp hi
    rw [fullSlot, gap_eq_fullGap (.inl (by omega))]
  rw [session, ← hbefore, List.range_eq_range', List.range_eq_range', ← List.range'_append_1, ← List.range'_append_1]
  simp

/-- A raw session is one frame (43_repeat R161). -/
theorem rawSession_eq (b : Build) (code : Code) : rawSession b code = frameEvents code := by
  simp [rawSession, session, gap]

end Slots

/-- What a command session's events add up to, for any weight of an event: its frames' share and its pauses'. -/
theorem sum_map_commandSession (b : Build) (code : Code) (f : Event → Nat) :
    ((commandSession b code).map f).sum =
      b.repeatCount * ((frameEvents code).map f).sum + commandPauses b * f (.pauseMs b.pauseMs) := by
  rw [commandSession, commandPauses]
  cases b.repeatCount with
  | zero => simp [session]
  | succ m =>
    have hslot : ((fullSlot b code true).map f).sum = ((frameEvents code).map f).sum + f (.pauseMs b.pauseMs) := by
      simp [fullSlot, fullGap]
    have hsum : ((session b code (m + 1) true).map f).sum =
        m * (((frameEvents code).map f).sum + f (.pauseMs b.pauseMs)) +
          (((frameEvents code).map f).sum + ((gap b m (m + 1) true).map f).sum) := by
      simp [session_eq_append b code m 0, hslot]
    rw [hsum]
    cases ht : b.trailingPause with
    | true =>
      rw [gap_eq_fullGap (.inr ht), fullGap, if_pos rfl, if_pos rfl, List.map_singleton, List.sum_singleton]
      ring
    | false =>
      rw [gap_last_eq_nil ht, if_neg Bool.false_ne_true, List.map_nil, List.sum_nil, Nat.add_sub_cancel]
      ring

/-- Settles O47: a length is a sum of ones, 135 for each frame and one for each pause. -/
theorem sessionLengths : Obligations.SessionLengths := by
  intro b code hb
  have hlen : (commandSession b code).length = b.repeatCount * 135 + commandPauses b := by
    simpa using sum_map_commandSession b code fun _ => 1
  refine ⟨fun ht => ?_, fun ht => ?_, by simp [rawSession_eq]⟩
  · rw [hlen, commandPauses, if_pos ht]
    omega
  · rw [hlen, commandPauses, if_neg (ne_true_of_eq_false ht)]
    omega

/-- Settles O48: `136 * r` is the length of the whole slots before frame `r`. -/
theorem sessionFramesIdentical : Obligations.SessionFramesIdentical := by
  intro b code r hr
  obtain ⟨k, hk⟩ := Nat.exists_eq_add_of_le (show r + 1 ≤ b.repeatCount from hr)
  rw [commandSession, hk, session_eq_append, List.drop_left' (by simp [Nat.mul_comm]),
    List.take_left' (frameEvents_length code)]

/-- After the pulses the structured form sets the line LOW (43_repeat R166). -/
theorem slotEvent_low (b : Build) (code : Code) : slotEvent b code 134 = some (.set .low) := rfl

/-- After the frame the structured form pauses (43_repeat R166). -/
theorem slotEvent_pause (b : Build) (code : Code) : slotEvent b code 135 = some (.pauseMs b.pauseMs) := rfl

/-- Up to the end of the frame the structured form names the frame's events (43_repeat R166). -/
theorem slotEvent_eq_frameEvents_getElem? (b : Build) (code : Code) {e : Nat} (he : e < 135) :
    slotEvent b code e = (frameEvents code)[e]? := by
  obtain he | rfl := Nat.lt_succ_iff_lt_or_eq.mp he
  · obtain ⟨q, hq⟩ : ∃ q, (necEncode code)[e / 2]? = some q :=
      ⟨_, List.getElem?_eq_getElem (by rw [necEncode_length]; omega)⟩
    obtain ⟨hset, hhold⟩ := flatMap_pulseEvents_getElem? hq
    rw [frameEvents_getElem?_of_lt he, slotEvent, if_pos he, hq, Option.map_some]
    obtain heven | hodd := Nat.mod_two_eq_zero_or_one e
    · rw [if_pos heven, ← hset, show 2 * (e / 2) = e by omega]
    · rw [if_neg (by omega), ← hhold, show 2 * (e / 2) + 1 = e by omega]
  · rw [slotEvent_low, frameEvents_getElem?_last]

/-- Settles O49: an offset below 135 is in frame `r`, and offset 135 is in the gap after it, which is whole there. -/
theorem structuredUpcRefines : Obligations.StructuredUpcRefines := by
  intro b code n r e paused L hr he hgap
  obtain ⟨k, rfl⟩ := Nat.exists_eq_add_of_le (show r + 1 ≤ n from hr)
  have hframe : (frameEvents code).length = 135 := frameEvents_length code
  have hbefore : (List.replicate r (fullSlot b code paused)).flatten.length = r * L := by simp [L]
  rw [session_eq_append, List.getElem?_append_right (hbefore.le.trans (Nat.le_add_right ..)), hbefore,
    Nat.add_sub_cancel_left]
  obtain hin | hout := Nat.lt_or_ge e 135
  · rw [slotEvent_eq_frameEvents_getElem? b code hin, List.getElem?_append_left (by omega)]
    exact ⟨rfl, by simpa using hin⟩
  · cases paused with
    | false => exact absurd he hout.not_gt -- a session without pauses has no offset 135
    | true =>
      obtain rfl : e = 135 := Nat.le_antisymm (Nat.le_of_lt_succ he) hout
      rw [gap_eq_fullGap (hgap rfl), slotEvent_pause, List.getElem?_append_right hframe.le, hframe]
      exact ⟨rfl, rfl⟩

section Times

variable {ps : List Pulse}

/-- The holds of pulses last what the pulses last (43_repeat R167). -/
theorem sum_holdTime_flatMap_pulseEvents (h : ∀ p ∈ ps, p.duration ∈ holdValues) :
    ((ps.flatMap pulseEvents).map Event.holdTime).sum = (ps.map (·.duration)).sum := by
  induction ps with
  | nil => rfl
  | cons p ps ih =>
    obtain ⟨hp, hps⟩ := List.forall_mem_cons.mp h
    have hhold : (BitVec.ofNat 30 p.duration).toNat = p.duration := toNat_ofNat_of_mem_holdValues _ hp
    simp [-BitVec.toNat_ofNat, pulseEvents, Event.holdTime, hhold, ih hps]

/-- The holds of a frame sum to the frame's time (43_repeat R167). -/
theorem sum_holdTime_frameEvents (code : Code) : ((frameEvents code).map Event.holdTime).sum = frameTime code := by
  rw [frameEvents, List.map_append, List.sum_append,
    sum_holdTime_flatMap_pulseEvents fun _ hp => necEncode_duration hp]
  simp [frameTime, Event.holdTime]

/-- A frame has no pause (42_transmitter R140). -/
theorem sum_pauseTime_frameEvents (code : Code) : ((frameEvents code).map Event.pauseTime).sum = 0 := by
  refine List.sum_eq_zero fun t ht => ?_
  obtain ⟨e, he, rfl⟩ := List.mem_map.mp ht
  obtain ⟨l, rfl⟩ | ⟨d, _, rfl⟩ := mem_frameEvents_cases he <;> rfl

end Times

/-- Settles O51: a frame's holds sum to its time, and only the pauses between and after the frames pause. -/
theorem nominalSessionTimes : Obligations.NominalSessionTimes := by
  intro b code
  have hholds : ((commandSession b code).map Event.holdTime).sum = b.repeatCount * frameTime code := by
    simp [sum_map_commandSession, sum_holdTime_frameEvents, Event.holdTime]
  have hpauses : ((commandSession b code).map Event.pauseTime).sum = commandPauses b * b.pauseMs.toNat := by
    simp [sum_map_commandSession, sum_pauseTime_frameEvents, Event.pauseTime]
  refine ⟨hholds, fun ht => ?_, fun ht => ?_, ?_, ?_⟩
  · rw [hpauses, commandPauses, if_pos ht]
  · rw [hpauses, commandPauses, if_neg (ne_true_of_eq_false ht)]
  · rw [rawSession_eq, sum_holdTime_frameEvents]
  · rw [rawSession_eq, sum_pauseTime_frameEvents]

end Sys2Proof.Machine
end

section
/-! ## A session without a reset (44_dispatcher R192 to R198)

One Sequence step issues one event. A stretch of a run is described by `State.Issues`: which events it issues, and what
it leaves alone; stretches compose. A session is the stretch before its last event, then that event with the
response. -/

namespace Sys2Proof.Machine

/-- `respond(SUCCESS, 0)` (30_encoding R75, R76). -/
theorem respWord_success : respWord statusSuccess 0#32 = 0#34 := rfl

/-- A run that answers next begins with a step that does. -/
theorem core_run_succ_next {s t : State} {k : Nat} (h : Host.Core.run core (k + 1) s = .next t) :
    ∃ u, step s = .next u ∧ Host.Core.run core k u = .next t := by
  cases hs : step s with
  | next u => exact ⟨u, rfl, (core_run_succ k hs).symm.trans h⟩
  | fault r => simp [Host.Core.run, show core.step s = .fault r from hs] at h
  | refused r => simp [Host.Core.run, show core.step s = .refused r from hs] at h

/-- A run goes on from where its first part ends. -/
theorem core_run_add {s t : State} (j k : Nat) (h : Host.Core.run core j s = .next t) :
    Host.Core.run core (j + k) s = Host.Core.run core k t := by
  induction j generalizing s with
  | zero =>
    obtain rfl : s = t := Host.Outcome.next.inj h
    rw [Nat.zero_add]
  | succ j ih =>
    obtain ⟨u, hs, hu⟩ := core_run_succ_next h
    rw [Nat.succ_add, core_run_succ (j + k) hs, ih hu]

/-- From `s` to `t` the events `es` are issued, no reset comes in sight, and nothing else of the Block's configuration
and of the Host's port changes. -/
structure State.Issues (s t : State) (es : List Event) : Prop where
  trace : t.trace = s.trace ++ es
  pin : t.pin = lineAfter s.pin es
  sess : t.sess = s.sess
  cfg : t.cfg = s.cfg
  rom : t.rom = s.rom
  build : t.build = s.build
  requests : t.requests = s.requests
  responses : t.responses = s.responses
  noReset : t.NoReset

section Sequence

variable {s t u : State} {e : Event} {es fs : List Event}

/-- Staying in a state issues nothing. -/
theorem State.Issues.refl (h : s.NoReset) : s.Issues s [] :=
  ⟨(List.append_nil _).symm, rfl, rfl, rfl, rfl, rfl, rfl, rfl, h⟩

/-- One stretch after another issues the events of both. -/
theorem State.Issues.trans (h : s.Issues t es) (h' : t.Issues u fs) : s.Issues u (es ++ fs) where
  trace := by rw [h'.trace, h.trace, List.append_assoc]
  pin := by rw [h'.pin, h.pin, lineAfter_append]
  sess := h'.sess.trans h.sess
  cfg := h'.cfg.trans h.cfg
  rom := h'.rom.trans h.rom
  build := h'.build.trans h.build
  requests := h'.requests.trans h.requests
  responses := h'.responses.trans h.responses
  noReset := h'.noReset

/-- Sequence issues its event (44_dispatcher R192). -/
theorem State.Issues.sequence (h : s.NoReset) (e : Event) : s.Issues (s.emit e).advance.tick [e] :=
  ⟨rfl, rfl, rfl, rfl, rfl, rfl, rfl, rfl, State.NoReset.tick (s := (s.emit e).advance) h⟩

/-- In TRANSMITTING the step issues the event at `upc` and advances (44_dispatcher R192). -/
theorem step_sequence (hr : s.pins.rst = false) (hd : s.dstate = .transmitting) (he : s.sess[s.upc]? = some e) :
    step s = .next (s.emit e).advance.tick := by
  rw [step_of_transmitting hr hd, sequenceStep, s.sessionEvent_transmitting hd, he]
  simp [exec_toInstr]

/-- Before the session's last event Sequence goes on to the next (44_dispatcher R192). -/
theorem step_sequence_more (hn : s.NoReset) (hd : s.dstate = .transmitting) (hu : s.upc + 1 < s.sess.length) :
    ∃ t : State, step s = .next t ∧ s.Issues t [s.sess[s.upc]] ∧
      t.dstate = .transmitting ∧ t.upc = s.upc + 1 ∧ t.resp = s.resp := by
  have hmore : s.atLastEvent = false := State.not_atLastEvent_of_ne hu.ne
  have he : s.sess[s.upc]? = some s.sess[s.upc] := List.getElem?_eq_getElem _
  exact ⟨_, step_sequence hn.1 hd he, .sequence hn _, by simp [hmore, hd], by simp [hmore], by simp [hmore]⟩

/-- With the session's last event Sequence ends the session and answers (44_dispatcher R194). -/
theorem step_sequence_last (hn : s.NoReset) (hd : s.dstate = .transmitting) (hu : s.upc + 1 = s.sess.length) :
    ∃ t : State, step s = .next t ∧ s.Issues t (s.sess.drop s.upc) ∧
      t.dstate = .idle ∧ t.upc = 0 ∧ t.resp = some 0x000000000 := by
  have hend : s.atLastEvent = true := State.atLastEvent_of_eq hu
  have he : s.sess[s.upc]? = some s.sess[s.upc] := List.getElem?_eq_getElem _
  have hlast : s.sess.drop s.upc = [s.sess[s.upc]] := by
    rw [List.drop_eq_getElem_cons (by omega), hu, List.drop_length]
  exact ⟨_, step_sequence hn.1 hd he, hlast ▸ .sequence hn _, by simp [hend], by simp [hend],
    by simp [hend, respWord_success]⟩

/-- Short of the session's last event, `k` steps issue the next `k` events, and the session goes on (44_dispatcher
R197). -/
theorem run_session_part (k : Nat) (hn : s.NoReset) (hd : s.dstate = .transmitting)
    (hk : s.upc + k < s.sess.length) :
    ∃ t : State, Host.Core.run core k s = .next t ∧ s.Issues t ((s.sess.drop s.upc).take k) ∧
      t.dstate = .transmitting ∧ t.upc = s.upc + k ∧ t.resp = s.resp := by
  induction k generalizing s with
  | zero => exact ⟨s, core_run_zero s, .refl hn, hd, rfl, rfl⟩
  | succ k ih =>
    obtain ⟨u, hstep, hone, hud, huu, hur⟩ := step_sequence_more hn hd (by omega)
    obtain ⟨t, hrun, hrest, htd, htu, htr⟩ := ih hone.noReset hud (by rw [huu, hone.sess]; omega)
    rw [huu, hone.sess] at hrest
    refine ⟨t, (core_run_succ k hstep).trans hrun, ?_, htd, by omega, htr.trans hur⟩
    rw [List.drop_eq_getElem_cons (by omega), List.take_succ_cons]
    exact hone.trans hrest

/-- As many steps as the session has events left issue them all and answer (44_dispatcher R194, R197). -/
theorem run_session (hn : s.NoReset) (hd : s.dstate = .transmitting) (hu : s.upc < s.sess.length) :
    ∃ t : State, Host.Core.run core (s.sess.length - s.upc) s = .next t ∧ s.Issues t (s.sess.drop s.upc) ∧
      t.dstate = .idle ∧ t.upc = 0 ∧ t.resp = some 0x000000000 := by
  obtain ⟨k, hk⟩ : ∃ k, s.sess.length - s.upc = k + 1 := ⟨s.sess.length - s.upc - 1, by omega⟩
  obtain ⟨u, hrun, hpart, hud, huu, _⟩ := run_session_part k hn hd (by omega)
  obtain ⟨t, hstep, hone, hend⟩ := step_sequence_last hpart.noReset hud (by rw [huu, hpart.sess]; omega)
  rw [hpart.sess, huu, ← List.drop_drop] at hone
  refine ⟨t, ?_, List.take_append_drop k (s.sess.drop s.upc) ▸ hpart.trans hone, hend⟩
  rw [hk, core_run_add k 1 hrun, core_run_succ 0 hstep, core_run_zero]

end Sequence

/-- Settles O36: the stretch short of the last event, and the whole session. -/
theorem sessionRunsToCompletion : Obligations.SessionRunsToCompletion := by
  intro s hd hu hn
  constructor
  · intro k hk
    obtain ⟨t, hrun, hpart, htd, htu, htr⟩ := run_session_part k hn hd (by omega)
    exact ⟨t, hrun, htd, htr, htu, hpart.sess, hpart.trace⟩
  · obtain ⟨t, hrun, hall, htd, htu, htr⟩ := run_session hn hd hu
    exact ⟨t, hrun, htd, htu, htr, hall.trace, hall.pin, hall.cfg, hall.rom, hall.build, hall.requests,
      hall.responses⟩

/-- A request that starts a session is accepted in one step; the session then runs to its end and is answered
(44_dispatcher R184, R186, R198). -/
theorem run_accepted_session {s : State} {w : ReqWord} {rest : List ReqWord} {es : List Event} (hn : s.NoReset)
    (hd : s.dstate = .idle) (hp : s.resp = none) (hq : s.requests = w :: rest)
    (hw : exec (decodeReq w) s = .next (s.startSession es)) (hes : 0 < es.length) :
    ∃ t, Host.Core.run core (1 + es.length) s = .next t ∧
      t.trace = s.trace ++ es ∧ t.pin = lineAfter s.pin es ∧ t.dstate = .idle ∧ t.upc = 0 ∧
      t.resp = some 0x000000000 ∧ t.cfg = s.cfg ∧ t.requests = rest ∧ t.responses = s.responses := by
  have hstep : step s = .next (s.startSession es).dropRequest.tick := by
    rw [step_of_request hn.1 hd hp hq, acceptStep, hw, thenNext_next]
  have hn' : (s.startSession es).dropRequest.tick.NoReset :=
    State.NoReset.tick (s := (s.startSession es).dropRequest) hn
  obtain ⟨t, hrun, hall, htd, htu, htr⟩ := run_session hn' rfl hes
  refine ⟨t, ?_, hall.trace, hall.pin, htd, htu, htr, hall.cfg, ?_, hall.responses⟩
  · rw [Nat.add_comm, core_run_succ _ hstep]
    exact hrun
  · simp [hall.requests, hq]

end Sys2Proof.Machine
end

section
/-! ## What each request answers (44_dispatcher R182 to R190)

One equation per request and case, then the statements of the requests and the runs of the two sends. -/

namespace Sys2Proof.Machine

section Requests

variable {s : State}

/-- InvalidArgument's response, and nothing else (60_exceptions R227). -/
theorem State.raiseError_invalidArgument (s : State) :
    s.raiseError .invalidArgument 0 = { s with resp := some 0x100000000 } := rfl

/-- InitFailure's response, and nothing else (60_exceptions R227). -/
theorem State.raiseError_initFailure (s : State) :
    s.raiseError .initFailure 0 = { s with resp := some 0x200000000 } := rfl

/-- INIT's whole effect for either outcome (44_dispatcher R182). -/
theorem State.configured_eq (s : State) (ok : Bool) :
    ((s.countDraw).emit (.cfg ok)).configured ok =
      { s with
        cfg := ok
        pin := if ok then .low else .undriven
        trace := s.trace ++ [.cfg ok]
        resp := some (if ok then 0x000000000 else 0x200000000)
        capAnswers := s.capAnswers.tail
        draws := s.draws + 1 } := by
  cases ok <;> rfl

/-- SEND_CMD with an index out of range (40_registry R103). -/
theorem exec_sendCmd_of_ge {index : Code} (hi : ¬ indexOperand index < Config.nCmd) :
    exec (.sendCmd index) s = .next (s.raiseError .invalidArgument 0) := by
  rw [exec, execSendCmd, s.lookup_of_ge hi]

/-- SEND_CMD with an index in range while the line is not configured (44_dispatcher R184). -/
theorem exec_sendCmd_of_not_cfg {index : Code} (hi : indexOperand index < Config.nCmd) (hc : s.cfg = false) :
    exec (.sendCmd index) s = .next (s.raiseError .initFailure 0) := by
  simp [exec, execSendCmd, s.lookup_of_lt hi, hc]

/-- SEND_CMD with an index in range on a configured line (44_dispatcher R184). -/
theorem exec_sendCmd_of_cfg {index : Code} (hi : indexOperand index < Config.nCmd) (hc : s.cfg = true) :
    exec (.sendCmd index) s = .next (s.startSession (commandSession s.build s.rom[indexOperand index])) := by
  simp [exec, execSendCmd, s.lookup_of_lt hi, hc]

/-- SEND_RAW while the line is not configured (44_dispatcher R186). -/
theorem exec_sendRaw_of_not_cfg (code : Code) (hc : s.cfg = false) :
    exec (.sendRaw code) s = .next (s.raiseError .initFailure 0) := by
  simp [exec, execSendRaw, hc]

/-- SEND_RAW on a configured line: one frame of the code (44_dispatcher R186, 43_repeat R161). -/
theorem exec_sendRaw_of_cfg (code : Code) (hc : s.cfg = true) :
    exec (.sendRaw code) s = .next (s.startSession (frameEvents code)) := by
  simp [exec, execSendRaw, codeOperand, rawSession_eq, hc]

/-- A reserved opcode answers InvalidArgument (44_dispatcher R188). -/
theorem reservedRequest_eq (s : State) : reservedRequest s = .next { s with resp := some 0x100000000 } := rfl

end Requests

/-- A session of at least one frame leaves the line LOW, whatever it was (42_transmitter R143). -/
theorem lineAfter_session_of_pos {line : Line} (b : Build) (code : Code) {n : Nat} (paused : Bool) (hn : 1 ≤ n) :
    lineAfter line (session b code n paused) = .low := by
  obtain ⟨m, rfl⟩ := Nat.exists_eq_add_of_le' hn
  simp [session, List.range_succ]

/-- Settles O37: SEND_CMD starts the session of the registry's code, which holds a frame and so an event. -/
theorem acceptedCommandTransmits : Obligations.AcceptedCommandTransmits := by
  intro s index rest h hn hd hp hc hb hq events
  have hdec : decodeReq (reqWord 2 index) = .sendCmd index := decodeReq_of_encode rfl
  have hw : exec (decodeReq (reqWord 2 index)) s = .next (s.startSession events) :=
    hdec ▸ exec_sendCmd_of_cfg h hc
  constructor
  · obtain ⟨t, hrun, htrace, hpin, htd, htu, htr, hcfg, hreq, hresp⟩ :=
      run_accepted_session hn hd hp hq hw (session_length_pos hb)
    exact ⟨t, hrun, htrace, hpin.trans (lineAfter_session_of_pos _ _ _ hb), htd, htu, htr, hcfg.trans hc, hreq, hresp⟩
  · intro h3 ht
    obtain ⟨hlen, _⟩ := sessionLengths s.build (s.rom[index.toNat]'h) hb
    exact (hlen ht).trans (by rw [h3])

/-- Settles O38: SEND_RAW starts a session of one frame, which leaves the line LOW. -/
theorem acceptedRawTransmits : Obligations.AcceptedRawTransmits := by
  intro s code rest hn hd hp hc hq
  have hdec : decodeReq (reqWord 3 code) = .sendRaw code := decodeReq_of_encode rfl
  have hw : exec (decodeReq (reqWord 3 code)) s = .next (s.startSession (frameEvents code)) :=
    hdec ▸ exec_sendRaw_of_cfg code hc
  obtain ⟨t, hrun, htrace, hpin, htd, htu, htr, hcfg, hreq, hresp⟩ :=
    run_accepted_session hn hd hp hq hw (by simp)
  rw [frameEvents_length] at hrun
  exact ⟨t, hrun, htrace, hpin.trans (lineAfter_frameEvents code), htd, htu, htr, hcfg.trans hc, hreq, hresp⟩

/-- Settles O17: the outcome drawn is the one INIT records, answers and configures by. -/
theorem initResult : Obligations.InitResult := by
  rintro arg s _ rfl
  exact congrArg Host.Outcome.next (s.configured_eq s.drawnOutcome)

/-- Settles O18: the bounds check of the lookup comes before the configured check. -/
theorem sendCmdResult : Obligations.SendCmdResult := fun _ s =>
  ⟨fun hi => s.raiseError_invalidArgument ▸ exec_sendCmd_of_ge (Nat.not_lt.mpr hi),
   fun hi hc => s.raiseError_initFailure ▸ exec_sendCmd_of_not_cfg hi hc,
   fun hi hc => exec_sendCmd_of_cfg hi hc⟩

/-- Settles O19: the session of one frame without a pause is the frame. -/
theorem sendRawResult : Obligations.SendRawResult := fun code s =>
  ⟨fun hc => s.raiseError_initFailure ▸ exec_sendRaw_of_not_cfg code hc, exec_sendRaw_of_cfg code,
   frameEvents_length code⟩

/-- Settles O26: for either value of `cfg`, what SEND_RAW does is made of `cfg` and the code alone. -/
theorem sendRawReadsNoRegistry : Obligations.SendRawReadsNoRegistry := by
  intro s code rom
  obtain hc | hc := Bool.eq_false_or_eq_true s.cfg
  · rw [exec_sendRaw_of_cfg code hc, exec_sendRaw_of_cfg (s := { s with rom := rom }) code hc]
    rfl
  · rw [exec_sendRaw_of_not_cfg code hc, exec_sendRaw_of_not_cfg (s := { s with rom := rom }) code hc]
    rfl

/-- Settles O20: the build alone decides. -/
theorem learnResult : Obligations.LearnResult := fun _ _ =>
  ⟨fun hl => if_pos hl, fun hl => if_neg (ne_true_of_eq_false hl)⟩

/-- Settles O21: the twelve arms are one request. -/
theorem reservedOpcodesRaise : Obligations.ReservedOpcodesRaise := by
  refine ⟨congrArg Except.ok (decodeReq_of_encode (i := .reservedOp0 0) rfl), fun arg s => ?_⟩
  have h := reservedRequest_eq s
  exact ⟨h, h, h, h, h, h, h, h, h, h, h, h⟩

end Sys2Proof.Machine
end

section
/-! ## The dispatcher's steps in full (44_dispatcher R180, R181, R192, R195) -/

namespace Sys2Proof.Machine

/-- No instruction touches the Host's pins or their schedule (log 2). -/
theorem exec_pins_schedule {i : Instr} {s t : State} (h : exec i s = .next t) :
    t.pins = s.pins ∧ t.schedule = s.schedule := by
  obtain ⟨_, rfl⟩ | ⟨_, _, _, _, rfl⟩ | ⟨_, _, _, rfl⟩ | ⟨_, _, _, rfl⟩ | ⟨_, _, rfl⟩ | ⟨_, _, rfl⟩ :=
    exec_next_cases h <;> simp

/-- What changes a next state matters only on the state answered. -/
theorem thenNext_congr {o : Host.Outcome State Fault Refusal} {f g : State → State}
    (h : ∀ t, o = .next t → f t = g t) : thenNext o f = thenNext o g := by
  cases o with
  | next t => exact congrArg Host.Outcome.next (h t rfl)
  | fault r => rfl
  | refused r => rfl

/-- The advance by the place of the event (44_dispatcher R192). -/
theorem State.advance_eq (s : State) :
    s.advance = { s with
      upc := if s.upc + 1 = s.sess.length then 0 else s.upc + 1
      dstate := if s.upc + 1 = s.sess.length then .idle else s.dstate
      resp := if s.upc + 1 = s.sess.length then some 0x000000000 else s.resp } := by
  by_cases hl : s.upc + 1 = s.sess.length
  · simp [State.advance, State.atLastEvent_of_eq hl, hl, respWord_success]
  · simp [State.advance, State.not_atLastEvent_of_ne hl, hl]

/-- Settles O11: the request's instruction leaves the Host's port, which Accept then moves on. -/
theorem acceptRunsPresentedRequest : Obligations.AcceptRunsPresentedRequest := by
  intro s w rest i hr hd hp hq hi
  obtain rfl : decodeReq w = i := Except.ok.inj hi
  rw [step_of_request hr hd hp hq, acceptStep]
  refine thenNext_congr fun t ht => ?_
  obtain ⟨hpins, hsched⟩ := exec_pins_schedule ht
  simp [State.tick, State.dropRequest, exec_requests ht, hq, hpins, hsched]

/-- Settles O13: the event is emitted, `upc` advances, and the pins move on. -/
theorem sequenceStepResult : Obligations.SequenceStepResult := by
  intro s e hr hd he
  rw [step_sequence hr hd he, State.advance_eq, ← hd]
  rfl

/-- Settles O12: the word of an event decodes to the instruction that emits it. -/
theorem sequenceRunsDecodedEvent : Obligations.SequenceRunsDecodedEvent := by
  intro s e i hr hd he hi
  obtain rfl : e.toInstr = i := Except.ok.inj ((decodeEvt_word e).symm.trans hi)
  rw [sequenceStepResult s e hr hd he, exec_toInstr]
  rfl

/-- Settles O14: with resp_ready the step is Take, and without it the full buffer makes the Block wait. -/
theorem takeEmptiesBuffer : Obligations.TakeEmptiesBuffer := fun _ _ hr hd hp hlegal =>
  ⟨fun hy => (step_of_respReady hr hd hy hp).trans (if_neg hlegal), fun hy => step_of_not_respReady hr hd hy hp⟩

end Sys2Proof.Machine
end

section
/-! ## The order of the error checks, and the one place of each request (60_exceptions R224, R225) -/

namespace Sys2Proof.Machine

/-- The number of a request word begins with its opcode (30_encoding R70). -/
theorem reqWord_toNat_div (op : BitVec 4) (arg : Code) : (reqWord op arg).toNat / 2 ^ 32 = op.toNat := by
  rw [reqWord, toNat_append_eq_add]
  omega

/-- A word of a reserved opcode is performed as a reserved request: the four opcodes with a meaning are 1 to 4
(30_encoding R71, 44_dispatcher R188). -/
theorem exec_decodeReq_of_reserved {w : ReqWord} (h : w.toNat / 2 ^ 32 = 0 ∨ 5 ≤ w.toNat / 2 ^ 32) (s : State) :
    exec (decodeReq w) s = reservedRequest s := by
  have hw := encode_decodeReq w
  cases hi : decodeReq w with
  | init arg | sendCmd arg | sendRaw arg | learn arg =>
    rw [hi] at hw
    obtain rfl := FetchWord.req.inj hw
    rw [reqWord_toNat_div] at h
    exact absurd h (by decide)
  | set _ | holdUs _ | pauseMs _ | cfg _ =>
    rw [hi] at hw
    cases hw -- an event's word is no request word
  | _ => rfl

/-- Settles O24: the opcode decides first; then SEND_CMD's lookup refuses the index before `cfg` is read. -/
theorem errorCheckOrder : Obligations.ErrorCheckOrder := by
  intro s
  have hcmd (index : Code) : decodeReq (reqWord 2 index) = .sendCmd index := decodeReq_of_encode rfl
  have hraw (code : Code) : decodeReq (reqWord 3 code) = .sendRaw code := decodeReq_of_encode rfl
  refine ⟨fun w hw => (exec_decodeReq_of_reserved hw s).trans (reservedRequest_eq s), fun index hi => ?_,
    fun hc => ⟨fun index hi => ?_, fun code => ?_⟩⟩
  · rw [hcmd, exec_sendCmd_of_ge (Nat.not_lt.mpr hi), s.raiseError_invalidArgument]
  · rw [hcmd, exec_sendCmd_of_not_cfg hi hc, s.raiseError_initFailure]
  · rw [hraw, exec_sendRaw_of_not_cfg code hc, s.raiseError_initFailure]

section Unanswered

variable {s : State}

/-- A session under way is one unanswered request (60_exceptions R224). -/
theorem State.unanswered_of_transmitting (hd : s.dstate = .transmitting) (hp : s.resp = none) : s.unanswered = 1 := by
  simp [State.unanswered, hd, hp]

/-- A response in the buffer is one unanswered request (60_exceptions R224). -/
theorem State.unanswered_of_response (hd : s.dstate = .idle) {r : RespWord} (hp : s.resp = some r) :
    s.unanswered = 1 := by
  simp [State.unanswered, hd, hp]

/-- In IDLE with an empty buffer no request is unanswered. -/
theorem State.unanswered_of_ready (hd : s.dstate = .idle) (hp : s.resp = none) : s.unanswered = 0 := by
  simp [State.unanswered, hd, hp]

/-- The passing of a step at the pins answers nothing. -/
@[simp] theorem State.tick_unanswered (s : State) : s.tick.unanswered = s.unanswered := rfl

/-- The Host's requests are not among the accepted ones. -/
@[simp] theorem State.dropRequest_unanswered (s : State) : s.dropRequest.unanswered = s.unanswered := rfl

/-- The session's event leaves its request unanswered: the session goes on, or its response stands in the buffer
(44_dispatcher R192, R194). -/
theorem State.sequence_unanswered (hd : s.dstate = .transmitting) (hp : s.resp = none) (e : Event) :
    (s.emit e).advance.unanswered = 1 := by
  cases hl : s.atLastEvent with
  | true => exact State.unanswered_of_response (r := respWord statusSuccess 0) (by simp [hl]) (by simp [hl])
  | false => exact State.unanswered_of_transmitting (by simp [hl, hd]) (by simp [hl, hp])

/-- An accepted request is unanswered: it starts a session or writes a response (44_dispatcher R180). -/
theorem exec_decodeReq_unanswered (hd : s.dstate = .idle) (hp : s.resp = none) {w : ReqWord} {u : State}
    (hu : exec (decodeReq w) s = .next u) : u.unanswered = 1 := by
  obtain ⟨_, rfl⟩ | ⟨_, _, _, _, rfl⟩ | ⟨_, _, _, rfl⟩ | ⟨_, _, rfl⟩ | ⟨_, _, rfl⟩ := exec_decodeReq_cases hu
  · exact State.unanswered_of_response hd rfl -- an error
  · exact State.unanswered_of_transmitting rfl hp -- SEND_CMD
  · exact State.unanswered_of_transmitting rfl hp -- SEND_RAW
  · exact State.unanswered_of_response hd rfl -- LEARN
  · exact State.unanswered_of_response (by simp [hd]) (State.configured_resp _ _) -- INIT

end Unanswered

/-- Without a reset Accept moves a request from the waiting to the unanswered, Take moves one from there to the
responses, and the other steps move none (60_exceptions R224). -/
theorem State.Inv.step_requestAccount {s t : State} (h : s.Inv) (hr : s.pins.rst = false) (hst : step s = .next t) :
    t.requestAccount = s.requestAccount := by
  unfold State.requestAccount
  obtain ⟨hr', _⟩ | ⟨_, hd, e, _, rfl⟩ | ⟨_, hd, _, r, hp, _, rfl⟩ | ⟨_, _, _, rfl⟩ |
    ⟨_, hd, hp, w, rest, u, hq, hu, rfl⟩ := step_next_cases hst
  · simp [hr] at hr' -- Reset
  · -- Sequence
    obtain ⟨_, hp⟩ := h.transmitting_configured hd
    simp [State.sequence_unanswered hd hp, State.unanswered_of_transmitting hd hp]
  · -- Take
    have ht : (s.takeResponse r).unanswered = 0 := State.unanswered_of_ready hd rfl
    simp [ht, State.unanswered_of_response hd hp, Nat.add_assoc, Nat.add_comm 1]
  · simp -- waiting
  · -- Accept
    simp [exec_decodeReq_unanswered hd hp hu, State.unanswered_of_ready hd hp, exec_requests hu, exec_responses hu, hq]

/-- Settles O32: the account is kept but by Reset, which keeps the Host's side and empties the Block's. -/
theorem eachRequestHasOnePlace : Obligations.EachRequestHasOnePlace := by
  refine fun s t h hst => ⟨fun hr => h.step_requestAccount hr hst, fun hr => ?_⟩
  obtain rfl : s.resetBlock.tick = t := Host.Outcome.next.inj ((step_of_rst hr).symm.trans hst)
  exact ⟨rfl, rfl, State.unanswered_of_ready rfl rfl⟩

end Sys2Proof.Machine
end

section
/-! ## Reset, and the Block at rest (70_reset R250, R265, 44_dispatcher R198)

In IDLE, with no reset and no request accepted, a step is Take or waiting: either leaves the line, the trace and the
configuration as they are. -/

namespace Sys2Proof.Machine

/-- Settles O10: reset is chosen before any other step, presents no event, and writes the Block's own fields alone. -/
theorem resetStepResult : Obligations.ResetStepResult := by
  intro s hr
  have hcap : s.capValid = false := by rw [State.capValid, State.capEvt_of_rst hr, Option.isSome_none]
  exact ⟨hcap, s.resetBlock.tick, step_of_rst hr, by simp⟩

/-- Settles O15: with the buffer empty and no request the step is waiting, which moves the pins on. -/
theorem idleWaitsForRequest : Obligations.IdleWaitsForRequest := fun _ hr ⟨hd, hp, hq⟩ =>
  step_of_no_request hr hd hp hq

section Idle

variable {s t : State}

/-- In IDLE a step that accepts no request, and is no reset, is Take or waiting (44_dispatcher R181). -/
theorem step_idle_cases (hr : s.pins.rst = false) (hd : s.dstate = .idle) (hst : step s = .next t)
    (hq : t.requests = s.requests) : (∃ r, s.resp = some r ∧ t = (s.takeResponse r).tick) ∨ t = s.tick := by
  obtain ⟨hr', _⟩ | ⟨_, hd', _⟩ | ⟨_, _, _, r, hp, _, rfl⟩ | ⟨_, _, _, rfl⟩ | ⟨_, _, _, w, rest, u, hw, hu, rfl⟩ :=
    step_next_cases hst
  · simp [hr] at hr' -- Reset
  · simp [hd] at hd' -- Sequence
  · exact .inl ⟨r, hp, rfl⟩ -- Take
  · exact .inr rfl -- waiting
  · simp [exec_requests hu, hw] at hq -- Accept drops the request

/-- Taking a response is no happening: the answer was there when it was written (10_state R26). -/
theorem State.happenings_takeResponse (hr : s.pins.rst = false) {r : RespWord} (hp : s.resp = some r) :
    s.happenings (s.takeResponse r).tick = [] := by
  simp [State.happenings, hr, hp]

/-- Where no request is presented, no request is there after the step (10_state R32). -/
theorem step_requests_of_nil (hst : step s = .next t) (hq : s.requests = []) : t.requests = [] := by
  obtain ⟨_, _, hheld⟩ := requestHeldUntilReady s
  obtain ⟨hkeep, hdrop⟩ := hheld t hst
  cases hr : s.pins.rst with
  | true => exact (hkeep (.inl hr)).trans hq
  | false =>
    cases hy : s.reqReady with
    | true => rw [hdrop hr hy, hq, List.tail_nil]
    | false => exact (hkeep (.inr hy)).trans hq

/-- A state of the invariant with no request presented steps on: there is no LEARN to refuse (44_dispatcher R190). -/
theorem State.Inv.step_next_of_no_request (h : s.Inv) (hq : s.requests = []) : ∃ t, step s = .next t :=
  h.step_next_or_learn.resolve_right fun ⟨_, _, _, _, _, _, hw⟩ => by simp [hq] at hw

/-- Without a reset, an IDLE step that accepts no request leaves the Block IDLE, `cfg`, the line and the trace as they
are, no reset in sight where none was, and nothing happens (70_reset R265). -/
theorem step_idle_quiet (hr : s.pins.rst = false) (hd : s.dstate = .idle) (hst : step s = .next t)
    (hq : t.requests = s.requests) :
    t.dstate = .idle ∧ t.cfg = s.cfg ∧ t.pin = s.pin ∧ t.trace = s.trace ∧ s.happenings t = [] ∧
      (s.NoReset → t.NoReset) := by
  obtain ⟨r, hp, rfl⟩ | rfl := step_idle_cases hr hd hst hq
  · exact ⟨hd, rfl, rfl, rfl, State.happenings_takeResponse hr hp, State.NoReset.tick (s := s.takeResponse r)⟩
  · exact ⟨hd, rfl, rfl, rfl, State.happenings_nil hr rfl rfl, State.NoReset.tick⟩

/-- With no request and no reset, any number of IDLE steps leaves the Block IDLE, the line and the trace as they are,
and nothing happens (70_reset R265, 44_dispatcher R198). -/
theorem State.Inv.run_idle (n : Nat) (h : s.Inv) (hd : s.dstate = .idle) (hn : s.NoReset) (hq : s.requests = []) :
    timeline n s = [] ∧
      ∃ t, Host.Core.run core n s = .next t ∧ t.dstate = .idle ∧ t.pin = s.pin ∧ t.trace = s.trace := by
  induction n generalizing s with
  | zero => exact ⟨rfl, s, core_run_zero s, hd, rfl, rfl⟩
  | succ n ih =>
    obtain ⟨u, hst⟩ := h.step_next_of_no_request hq
    have huq := step_requests_of_nil hst hq
    obtain ⟨hud, _, hup, hut, hnone, hun⟩ := step_idle_quiet hn.1 hd hst (huq.trans hq.symm)
    obtain ⟨htime, t, hrun, htd, htp, htt⟩ := ih (stepKeepsInv s u h hst) hud (hun hn) huq
    refine ⟨?_, t, (core_run_succ n hst).trans hrun, htd, htp.trans hup, htt.trans hut⟩
    rw [timeline_succ n hst, hnone, htime, List.nil_append]

end Idle

/-- Settles O55: an IDLE configured line is LOW by the invariant, and neither Take nor waiting drives it. -/
theorem idleLineStaysLow : Obligations.IdleLineStaysLow := by
  constructor
  · intro s t h hd hc hr hst hq
    obtain ⟨htd, htc, htp, _, hnone, _⟩ := step_idle_quiet hr hd hst hq
    exact ⟨htd, htc.trans hc, htp.trans (h.idle_low hd hc), hnone⟩
  · intro s n h hd hc hn hq
    obtain ⟨htime, t, hrun, htd, htp, htt⟩ := h.run_idle n hd hn hq
    exact ⟨htime, t, hrun, htd, htp.trans (h.idle_low hd hc), htt⟩

end Sys2Proof.Machine
end

section
/-! ## The timing obligations of a stamped timeline (70_reset R261 to R265) -/

namespace Sys2Proof.Machine

section Timing

variable {tol : Rat} {slack : Option Rat} {a b c : Stamped} {before rest : List Stamped} {t v : Rat}

/-- Under a tolerance below a tenth, an accurate hold is within a tenth of its nominal time (70_reset R262). -/
theorem HoldAccurate.within_tenth {d : Nat} (h : HoldAccurate tol d t) (htol : tol < 1 / 10) :
    (d : Rat) * (9 / 10) ≤ t ∧ t ≤ (d : Rat) * (11 / 10) := by
  obtain ⟨hlow, hhigh⟩ := h
  have hslip : tol * d ≤ 1 / 10 * d := mul_le_mul_of_nonneg_right htol.le (Nat.cast_nonneg d)
  constructor <;> linarith

/-- An accurate pause, its milliseconds read as microseconds (70_reset R264). -/
theorem PauseAccurate.microseconds {d : Nat} (h : PauseAccurate slack d (t / 1000)) :
    (d : Rat) * 1000 ≤ t ∧ ∀ x, slack = some x → t ≤ ((d : Rat) + x) * 1000 := by
  obtain ⟨hlow, hhigh⟩ := h
  exact ⟨(le_div_iff₀ (by norm_num)).mp hlow, fun x hx => (div_le_iff₀ (by norm_num)).mp (hhigh x hx)⟩

/-- Any three happenings in a row of an honoured timeline honour their obligation, wherever they stand. -/
theorem TimingHonoured.triple (h : TimingHonoured tol slack (before ++ a :: b :: c :: rest)) :
    TripleHonoured tol slack a b c :=
  h.of_append.1

/-- Between two events a pause is to be accurate, whichever events they are (70_reset R264). -/
theorem tripleHonoured_pause {e g : Event} {d : Val} {u : Rat} :
    TripleHonoured tol slack ⟨.issued e, t⟩ ⟨.issued (.pauseMs d), u⟩ ⟨.issued g, v⟩ ↔
      PauseAccurate slack d.toNat ((v - t) / 1000) := by
  cases e <;> cases g <;> exact Iff.rfl

/-- Before a response a pause is to last its time, with no upper bound (70_reset R265; log 18). -/
theorem tripleHonoured_pause_answered {e : Event} {d : Val} {u : Rat} :
    TripleHonoured tol slack ⟨.issued e, t⟩ ⟨.issued (.pauseMs d), u⟩ ⟨.answered, v⟩ ↔
      PauseAccurate none d.toNat ((v - t) / 1000) := by
  cases e <;> exact Iff.rfl

/-- A pause before a response keeps it at least the pause's time from the event before the pause (70_reset R265). -/
theorem TimingHonoured.pause_before_response {e : Event} {d : Val} {u : Rat}
    (h : TimingHonoured tol slack
      (before ++ ⟨.issued e, t⟩ :: ⟨.issued (.pauseMs d), u⟩ :: ⟨.answered, v⟩ :: rest)) :
    (d.toNat : Rat) * 1000 ≤ v - t :=
  (tripleHonoured_pause_answered.mp h.triple).microseconds.1

/-- The first happening can be left out where no obligation begins with it. -/
theorem timingHonoured_cons_iff {l : List Stamped}
    (h : ∀ b c rest, l = b :: c :: rest → TripleHonoured tol slack a b c) :
    TimingHonoured tol slack (a :: l) ↔ TimingHonoured tol slack l := by
  match l with
  | [] => exact Iff.rfl
  | [_] => exact Iff.rfl
  | b :: c :: rest => exact and_iff_right (h b c rest rfl)

/-- No obligation begins with a response (70_reset R265). -/
theorem tripleHonoured_answered_left : TripleHonoured tol slack ⟨.answered, v⟩ b c := trivial

/-- No obligation has a response in its middle (70_reset R265). -/
theorem tripleHonoured_answered_middle : TripleHonoured tol slack a ⟨.answered, v⟩ c := by
  unfold TripleHonoured
  split <;> trivial

end Timing

/-- Settles O53: the four bands are the nominal times less and more a tenth, and the other clauses read one triple. -/
theorem timingKeepsSymbolsApart : Obligations.TimingKeepsSymbolsApart := by
  intro tol htol
  refine ⟨fun t h => ?_, fun t h => ?_, fun t h => ?_, fun t h => ?_, fun _ _ _ _ _ _ _ _ _ h => h.triple,
    fun _ _ _ _ _ _ _ _ _ h => (tripleHonoured_pause.mp h.triple).microseconds,
    fun _ _ _ _ _ _ _ _ h => h.pause_before_response⟩
  all_goals
    have hband := h.within_tenth htol
    norm_num at hband
    exact hband

/-- Settles O56: by induction on what stands before the response. A triple that holds the response in its first or
second place asks nothing, and every other one lies wholly on one side. -/
theorem noObligationAcrossResponse : Obligations.NoObligationAcrossResponse := by
  intro tol slack before after v
  induction before with
  | nil =>
    exact (timingHonoured_cons_iff fun _ _ _ _ => tripleHonoured_answered_left).trans (and_iff_right trivial).symm
  | cons a before ih =>
    match before with
    | [] =>
      refine (timingHonoured_cons_iff fun b c _ hl => ?_).trans ih
      obtain ⟨rfl, _⟩ := List.cons.inj hl
      exact tripleHonoured_answered_middle
    | [_] => exact (and_congr_right' ih).trans and_assoc.symm
    | _ :: _ :: _ => exact (and_congr_right' ih).trans and_assoc.symm

end Sys2Proof.Machine
end

section
/-! ## The end of a command session with its trailing pause (70_reset R265, 43_repeat R160) -/

namespace Sys2Proof.Machine

/-- With TRAILING_PAUSE a command session that has an event ends with SET(LOW) and PAUSE_MS (43_repeat R160). -/
theorem commandSession_eq_append {b : Build} {code : Code} (ht : b.trailingPause = true)
    (hne : commandSession b code ≠ []) :
    ∃ es, commandSession b code = es ++ [.set .low] ++ [.pauseMs b.pauseMs] := by
  obtain ⟨m, hm⟩ : ∃ m, b.repeatCount = m + 1 :=
    Nat.exists_eq_succ_of_ne_zero fun h => hne (by simp [commandSession, session, h])
  have hlast : commandSession b code =
      (List.replicate m (fullSlot b code true)).flatten ++ (frameEvents code ++ [.pauseMs b.pauseMs]) := by
    simp [commandSession, hm, session_eq_append b code m 0, gap_eq_fullGap (.inr ht), fullGap]
  refine ⟨(List.replicate m (fullSlot b code true)).flatten ++ (necEncode code).flatMap pulseEvents, ?_⟩
  rw [hlast, frameEvents]
  simp only [List.append_assoc]

/-- A stamped timeline of three happenings in a row is they with three times. -/
theorem exists_times_of_map_what {l : List Stamped} {x y z : Happening} (h : l.map Stamped.what = [x, y, z]) :
    ∃ t u v, l = [⟨x, t⟩, ⟨y, u⟩, ⟨z, v⟩] := by
  obtain ⟨a, _, rfl, rfl, hyz⟩ := List.map_eq_cons_iff.mp h
  obtain ⟨b, _, rfl, rfl, hz⟩ := List.map_eq_cons_iff.mp hyz
  obtain ⟨c, rfl, rfl⟩ := List.map_eq_singleton_iff.mp hz
  exact ⟨a.time, b.time, c.time, rfl⟩

section Timeline

variable {s t : State} {es : List Event}

/-- In a step without a reset the events issued happen, and after them the response where the step writes one
(44_dispatcher R194). -/
theorem State.Issues.happenings (h : s.Issues t es) (hr : s.pins.rst = false) :
    s.happenings t = es.map .issued ++ if s.resp.isNone && t.resp.isSome then [.answered] else [] := by
  simp [State.happenings, hr, h.trace]

/-- Until its session ends a Block with an empty buffer issues the events left, and then the response stands in the
buffer (44_dispatcher R194, R197). -/
theorem timeline_session (k : Nat) (hn : s.NoReset) (hd : s.dstate = .transmitting) (hp : s.resp = none)
    (hk : s.upc + (k + 1) = s.sess.length) :
    timeline (k + 1) s = (s.sess.drop s.upc).map .issued ++ [.answered] := by
  induction k generalizing s with
  | zero =>
    obtain ⟨t, hstep, hone, _, _, htr⟩ := step_sequence_last hn hd hk
    rw [timeline_succ 0 hstep, hone.happenings hn.1]
    simp [timeline, hp, htr]
  | succ k ih =>
    obtain ⟨u, hstep, hone, hud, huu, hur⟩ := step_sequence_more hn hd (by omega)
    have hrest := ih hone.noReset hud (hur.trans hp) (by rw [huu, hone.sess]; omega)
    rw [huu, hone.sess] at hrest
    rw [timeline_succ _ hstep, hone.happenings hn.1, hrest, List.drop_eq_getElem_cons (i := s.upc) (by omega), hur, hp]
    rfl

end Timeline

/-- Settles O54: the events left are some, then SET(LOW) and PAUSE_MS. The timeline adds the response to them, the
stretch short of the last event ends with SET(LOW), and the pause leaves the line. -/
theorem trailingPauseBeforeResponse : Obligations.TrailingPauseBeforeResponse := by
  intro s code tol slack stamps hn hd hp ht hs hu htimed hhonoured
  obtain ⟨es, hes⟩ := commandSession_eq_append ht (code := code) fun h => by simp [hs, h] at hu
  have hlen : s.sess.length = es.length + 2 := by simp [hs, hes]
  have hleft : s.sess.drop s.upc = es.drop s.upc ++ [.set .low] ++ [.pauseMs s.build.pauseMs] := by
    rw [hs, hes, List.append_assoc, List.drop_append_of_le_length (by omega), List.append_assoc]
  refine ⟨?_, ?_, ?_⟩
  · -- the timeline
    rw [Timed, show s.sess.length - s.upc = es.length - s.upc + 1 + 1 by omega,
      timeline_session _ hn hd hp (by omega), hleft] at htimed
    simp only [List.map_append, List.append_assoc] at htimed
    obtain ⟨before, last, rfl, _, hlast⟩ := List.map_eq_append_iff.mp htimed
    obtain ⟨t, u, v, rfl⟩ := exists_times_of_map_what hlast
    exact ⟨before, t, u, v, rfl, hhonoured.pause_before_response⟩
  · -- before the pause
    obtain ⟨t, hrun, hpart, htd, _⟩ := run_session_part (s.sess.length - s.upc - 1) hn hd (by omega)
    rw [hleft, List.take_left' (by simp; omega)] at hpart
    exact ⟨t, hrun, hpart.pin.trans (by rw [lineAfter_append]; rfl), htd⟩
  · -- at the response
    obtain ⟨t, hrun, hall, _, _, htr⟩ := run_session hn hd (by omega)
    rw [hleft] at hall
    exact ⟨t, hrun, hall.pin.trans (by rw [lineAfter_append, lineAfter_append]; rfl), htr⟩

end Sys2Proof.Machine
end
